-- ==== Sys2Proof/Word.lean ====
section
/-! DEFINITION. The value types of the hnes CORE and the closed sets of names the spec fixes: bytes and words,
colour triples, addressing modes, mnemonics, flags, register names, frame phases. -/

namespace Sys2Proof

/-- A byte: the width of A, X, Y, Sp, P and of a memory cell (R5). -/
abbrev Byte := BitVec 8

/-- A 16-bit value: Pc and every address (R5). -/
abbrev Word := BitVec 16

/-- A framebuffer cell and a PALETTE entry: the `(r, g, b)` byte triple of R42 and R299. -/
structure Rgb where
  r : Byte
  g : Byte
  b : Byte
  deriving DecidableEq, Repr, Inhabited

/-- The thirteen addressing modes of R91. -/
inductive Mode where
  | implied | accumulator | immediate | zeroPage | zeroPageX | zeroPageY | relative
  | indexedIndirect | indirectIndexed | absolute | absoluteX | absoluteY | indirect
  deriving DecidableEq, Repr

/-- The 56 mnemonics of R94. -/
inductive Mnemonic where
  | adc | and | asl | bcc | bcs | beq | bit | bmi | bne | bpl | brk | bvc | bvs | clc | cld | cli | clv | cmp
  | cpx | cpy | dec | dex | dey | eor | inc | inx | iny | jmp | jsr | lda | ldx | ldy | lsr | nop | ora | pha
  | php | pla | plp | rol | ror | rti | rts | sbc | sec | sed | sei | sta | stx | sty | tax | tay | tsx | txa
  | txs | tya
  deriving DecidableEq, Repr

/-- The eight flags of P, in the enumeration order of R26 (the spec's decision D1). -/
inductive Flag where
  | n | v | u | b | d | i | z | c
  deriving DecidableEq, Repr

/-- The CPU registers as the AddressSpace names them (R20). -/
inductive CpuReg where
  | a | x | y | sp | pc | p
  deriving DecidableEq, Repr

/-- The nine PPU registers (R30). -/
inductive PpuReg where
  | scrollX | scrollY | nameTableAddr | backgroundTableAddr | generateNmi | verticalBlank
  | ppuCycles | scanline | frameCount
  deriving DecidableEq, Repr

/-- The sub-phases of Render (R275). -/
inductive RenderSub where
  | idle | visible | preFetch
  deriving DecidableEq, Repr

/-- The sub-phases of PreRender (R276). -/
inductive PreRenderSub where
  | idle | clearVBlank | reloadY
  deriving DecidableEq, Repr

/-- The frame phases of R274, with the fatal classification `invalid`. -/
inductive Phase where
  | render (sub : RenderSub)
  | postRender
  | vBlank
  | preRender (sub : PreRenderSub)
  | invalid
  deriving DecidableEq, Repr

end Sys2Proof
end

