-- ==== Sys2Proof/Config.lean ====
section
/-! DEFINITION. The parameters the spec leaves open: constants without a value, so that no proof can see one. -/

namespace Sys2Proof

/-- PALETTE, the fixed 64-entry colour table the renderer indexes (R299). Its values are OPEN (decision D15): the
table is missing from the source, so each entry is a free value, fixed for the machine. (Log 12.) -/
opaque Config.palette : BitVec 6 → Rgb

/-- The launch value of each framebuffer cell, by cell number: arbitrary and fixed (R45, R46, D18, D19). A free value.
(Log 6.) -/
opaque Config.launchPixel : Nat → Rgb

/-- haltPc, the optional address at which a run counts as finished (R351). OPEN (decision D22). No step reads it.
(Log 13.) -/
opaque Config.haltPc : Option Word

/-- CPU_PPU_RATIO, recorded for information (R350): CPU steps and PPU steps. OPEN (decision D23). No step reads it.
(Log 13.) -/
opaque Config.cpuPpuRatio : Nat × Nat

end Sys2Proof
end

