-- ==== Sys2Proof/Syntax.lean ====
section
/-! DEFINITION. The instructions: one constructor for each of the 151 rows of spec/opcode_table.json that have a
mnemonic and a mode, and one for the 105 rows that have none. -/

namespace Sys2Proof

/-- An instruction as the opcode byte and its operand bytes give it (R90, R91, R94). The name is the mnemonic with
the mode as a suffix: `Imm` Immediate, `Zp` ZeroPage, `ZpX` ZeroPageX, `ZpY` ZeroPageY, `Abs` Absolute, `AbsX`
AbsoluteX, `AbsY` AbsoluteY, `Ind` Indirect, `IzX` IndexedIndirect, `IzY` IndirectIndexed, `Acc` Accumulator, none for
Implied, Relative and `JSR`. `undefined op` stands for an opcode byte that has no Instruction (R97; log 1). -/
inductive Instr where
  | adcImm (imm : Byte)
  | adcZp (zp : Byte)
  | adcZpX (zp : Byte)
  | adcAbs (addr : Word)
  | adcAbsX (addr : Word)
  | adcAbsY (addr : Word)
  | adcIzX (zp : Byte)
  | adcIzY (zp : Byte)
  | andImm (imm : Byte)
  | andZp (zp : Byte)
  | andZpX (zp : Byte)
  | andAbs (addr : Word)
  | andAbsX (addr : Word)
  | andAbsY (addr : Word)
  | andIzX (zp : Byte)
  | andIzY (zp : Byte)
  | aslAcc
  | aslZp (zp : Byte)
  | aslZpX (zp : Byte)
  | aslAbs (addr : Word)
  | aslAbsX (addr : Word)
  | bcc (rel : Byte)
  | bcs (rel : Byte)
  | beq (rel : Byte)
  | bitZp (zp : Byte)
  | bitAbs (addr : Word)
  | bmi (rel : Byte)
  | bne (rel : Byte)
  | bpl (rel : Byte)
  | brk
  | bvc (rel : Byte)
  | bvs (rel : Byte)
  | clc
  | cld
  | cli
  | clv
  | cmpImm (imm : Byte)
  | cmpZp (zp : Byte)
  | cmpZpX (zp : Byte)
  | cmpAbs (addr : Word)
  | cmpAbsX (addr : Word)
  | cmpAbsY (addr : Word)
  | cmpIzX (zp : Byte)
  | cmpIzY (zp : Byte)
  | cpxImm (imm : Byte)
  | cpxZp (zp : Byte)
  | cpxAbs (addr : Word)
  | cpyImm (imm : Byte)
  | cpyZp (zp : Byte)
  | cpyAbs (addr : Word)
  | decZp (zp : Byte)
  | decZpX (zp : Byte)
  | decAbs (addr : Word)
  | decAbsX (addr : Word)
  | dex
  | dey
  | eorImm (imm : Byte)
  | eorZp (zp : Byte)
  | eorZpX (zp : Byte)
  | eorAbs (addr : Word)
  | eorAbsX (addr : Word)
  | eorAbsY (addr : Word)
  | eorIzX (zp : Byte)
  | eorIzY (zp : Byte)
  | incZp (zp : Byte)
  | incZpX (zp : Byte)
  | incAbs (addr : Word)
  | incAbsX (addr : Word)
  | inx
  | iny
  | jmpAbs (addr : Word)
  | jmpInd (addr : Word)
  | jsr (addr : Word)
  | ldaImm (imm : Byte)
  | ldaZp (zp : Byte)
  | ldaZpX (zp : Byte)
  | ldaAbs (addr : Word)
  | ldaAbsX (addr : Word)
  | ldaAbsY (addr : Word)
  | ldaIzX (zp : Byte)
  | ldaIzY (zp : Byte)
  | ldxImm (imm : Byte)
  | ldxZp (zp : Byte)
  | ldxZpY (zp : Byte)
  | ldxAbs (addr : Word)
  | ldxAbsY (addr : Word)
  | ldyImm (imm : Byte)
  | ldyZp (zp : Byte)
  | ldyZpX (zp : Byte)
  | ldyAbs (addr : Word)
  | ldyAbsX (addr : Word)
  | lsrAcc
  | lsrZp (zp : Byte)
  | lsrZpX (zp : Byte)
  | lsrAbs (addr : Word)
  | lsrAbsX (addr : Word)
  | nop
  | oraImm (imm : Byte)
  | oraZp (zp : Byte)
  | oraZpX (zp : Byte)
  | oraAbs (addr : Word)
  | oraAbsX (addr : Word)
  | oraAbsY (addr : Word)
  | oraIzX (zp : Byte)
  | oraIzY (zp : Byte)
  | pha
  | php
  | pla
  | plp
  | rolAcc
  | rolZp (zp : Byte)
  | rolZpX (zp : Byte)
  | rolAbs (addr : Word)
  | rolAbsX (addr : Word)
  | rorAcc
  | rorZp (zp : Byte)
  | rorZpX (zp : Byte)
  | rorAbs (addr : Word)
  | rorAbsX (addr : Word)
  | rti
  | rts
  | sbcImm (imm : Byte)
  | sbcZp (zp : Byte)
  | sbcZpX (zp : Byte)
  | sbcAbs (addr : Word)
  | sbcAbsX (addr : Word)
  | sbcAbsY (addr : Word)
  | sbcIzX (zp : Byte)
  | sbcIzY (zp : Byte)
  | sec
  | sed
  | sei
  | staZp (zp : Byte)
  | staZpX (zp : Byte)
  | staAbs (addr : Word)
  | staAbsX (addr : Word)
  | staAbsY (addr : Word)
  | staIzX (zp : Byte)
  | staIzY (zp : Byte)
  | stxZp (zp : Byte)
  | stxZpY (zp : Byte)
  | stxAbs (addr : Word)
  | styZp (zp : Byte)
  | styZpX (zp : Byte)
  | styAbs (addr : Word)
  | tax
  | tay
  | tsx
  | txa
  | txs
  | tya
  | undefined (op : Byte)
  deriving DecidableEq, Repr

end Sys2Proof
end

