-- ==== Sys2Proof/WellFormed.lean ====
section
/-! DEFINITION. Which instruction terms stand for bytes of memory. -/

namespace Sys2Proof

/-- The opcode bytes with no Instruction, from 0x02 to 0x7F (R97). -/
def undefinedOpcodesLow : List Byte :=
  [0x02#8, 0x03#8, 0x04#8, 0x07#8, 0x0B#8, 0x0C#8, 0x0F#8, 0x12#8, 0x13#8, 0x14#8, 0x17#8, 0x1A#8, 0x1B#8] ++
  [0x1C#8, 0x1F#8, 0x22#8, 0x23#8, 0x27#8, 0x2B#8, 0x2F#8, 0x32#8, 0x33#8, 0x34#8, 0x37#8, 0x3A#8, 0x3B#8] ++
  [0x3C#8, 0x3F#8, 0x42#8, 0x43#8, 0x44#8, 0x47#8, 0x4B#8, 0x4F#8, 0x52#8, 0x53#8, 0x54#8, 0x57#8, 0x5A#8] ++
  [0x5B#8, 0x5C#8, 0x5F#8, 0x62#8, 0x63#8, 0x64#8, 0x67#8, 0x6B#8, 0x6F#8, 0x72#8, 0x73#8, 0x74#8, 0x77#8] ++
  [0x7A#8, 0x7B#8, 0x7C#8, 0x7F#8]

/-- The opcode bytes with no Instruction, from 0x80 to 0xFF (R97). -/
def undefinedOpcodesHigh : List Byte :=
  [0x80#8, 0x82#8, 0x83#8, 0x87#8, 0x89#8, 0x8B#8, 0x8F#8, 0x92#8, 0x93#8, 0x97#8, 0x9B#8, 0x9C#8, 0x9E#8] ++
  [0x9F#8, 0xA3#8, 0xA7#8, 0xAB#8, 0xAF#8, 0xB2#8, 0xB3#8, 0xB7#8, 0xBB#8, 0xBF#8, 0xC2#8, 0xC3#8, 0xC7#8] ++
  [0xCB#8, 0xCF#8, 0xD2#8, 0xD3#8, 0xD4#8, 0xD7#8, 0xDA#8, 0xDB#8, 0xDC#8, 0xDF#8, 0xE2#8, 0xE3#8, 0xE7#8] ++
  [0xEB#8, 0xEF#8, 0xF2#8, 0xF3#8, 0xF4#8, 0xF7#8, 0xFA#8, 0xFB#8, 0xFC#8, 0xFF#8]

/-- The 105 opcode bytes with no Instruction (R97). -/
def undefinedOpcodes : List Byte := undefinedOpcodesLow ++ undefinedOpcodesHigh

/-- A term is well formed when some bytes decode to it. Every field has exactly the width of its operand bytes
(R91), so the one check is that `undefined` carries one of the 105 bytes that have no Instruction (R97). -/
def Instr.wellFormed : Instr → Bool
  | .undefined op => undefinedOpcodes.contains op
  | .adcImm _ | .adcZp _ | .adcZpX _ | .adcAbs _ | .adcAbsX _ | .adcAbsY _ | .adcIzX _ | .adcIzY _
  | .andImm _ | .andZp _ | .andZpX _ | .andAbs _ | .andAbsX _ | .andAbsY _ | .andIzX _ | .andIzY _
  | .aslAcc | .aslZp _ | .aslZpX _ | .aslAbs _ | .aslAbsX _ | .bcc _ | .bcs _ | .beq _
  | .bitZp _ | .bitAbs _ | .bmi _ | .bne _ | .bpl _ | .brk | .bvc _ | .bvs _
  | .clc | .cld | .cli | .clv | .cmpImm _ | .cmpZp _ | .cmpZpX _ | .cmpAbs _
  | .cmpAbsX _ | .cmpAbsY _ | .cmpIzX _ | .cmpIzY _ | .cpxImm _ | .cpxZp _ | .cpxAbs _ | .cpyImm _
  | .cpyZp _ | .cpyAbs _ | .decZp _ | .decZpX _ | .decAbs _ | .decAbsX _ | .dex | .dey
  | .eorImm _ | .eorZp _ | .eorZpX _ | .eorAbs _ | .eorAbsX _ | .eorAbsY _ | .eorIzX _ | .eorIzY _
  | .incZp _ | .incZpX _ | .incAbs _ | .incAbsX _ | .inx | .iny | .jmpAbs _ | .jmpInd _
  | .jsr _ | .ldaImm _ | .ldaZp _ | .ldaZpX _ | .ldaAbs _ | .ldaAbsX _ | .ldaAbsY _ | .ldaIzX _
  | .ldaIzY _ | .ldxImm _ | .ldxZp _ | .ldxZpY _ | .ldxAbs _ | .ldxAbsY _ | .ldyImm _ | .ldyZp _
  | .ldyZpX _ | .ldyAbs _ | .ldyAbsX _ | .lsrAcc | .lsrZp _ | .lsrZpX _ | .lsrAbs _ | .lsrAbsX _
  | .nop | .oraImm _ | .oraZp _ | .oraZpX _ | .oraAbs _ | .oraAbsX _ | .oraAbsY _ | .oraIzX _
  | .oraIzY _ | .pha | .php | .pla | .plp | .rolAcc | .rolZp _ | .rolZpX _
  | .rolAbs _ | .rolAbsX _ | .rorAcc | .rorZp _ | .rorZpX _ | .rorAbs _ | .rorAbsX _ | .rti
  | .rts | .sbcImm _ | .sbcZp _ | .sbcZpX _ | .sbcAbs _ | .sbcAbsX _ | .sbcAbsY _ | .sbcIzX _
  | .sbcIzY _ | .sec | .sed | .sei | .staZp _ | .staZpX _ | .staAbs _ | .staAbsX _
  | .staAbsY _ | .staIzX _ | .staIzY _ | .stxZp _ | .stxZpY _ | .stxAbs _ | .styZp _ | .styZpX _
  | .styAbs _ | .tax | .tay | .tsx | .txa | .txs | .tya => true

end Sys2Proof
end

