-- ==== Sys2Proof/Decode.lean ====
section
/-! DEFINITION. Decoding bytes to an instruction, and encoding an instruction as bytes, both from the opcode map of
30_encoding.md rule R94 and the formats of rule R91. -/

namespace Sys2Proof

/-- A 16-bit operand from its two bytes, the low one first (R62, R91). -/
def wordOfBytes (lo hi : Byte) : Word := hi ++ lo

/-- Bits 7:0 of a 16-bit value. -/
def loByte (w : Word) : Byte := w.extractLsb' 0 8

/-- Bits 15:8 of a 16-bit value. -/
def hiByte (w : Word) : Byte := w.extractLsb' 8 8

/-- Row 0 of the opcode map (R94): the opcode bytes 0x00 to 0x0F, by their low nibble. -/
def decodeRow0 (lo : Nat) (b0 b1 b2 : Byte) : Instr :=
  match lo with
  | 0x0 => .brk
  | 0x1 => .oraIzX b1
  | 0x5 => .oraZp b1
  | 0x6 => .aslZp b1
  | 0x8 => .php
  | 0x9 => .oraImm b1
  | 0xA => .aslAcc
  | 0xD => .oraAbs (wordOfBytes b1 b2)
  | 0xE => .aslAbs (wordOfBytes b1 b2)
  | _ => .undefined b0

/-- Row 1 of the opcode map (R94): the opcode bytes 0x10 to 0x1F, by their low nibble. -/
def decodeRow1 (lo : Nat) (b0 b1 b2 : Byte) : Instr :=
  match lo with
  | 0x0 => .bpl b1
  | 0x1 => .oraIzY b1
  | 0x5 => .oraZpX b1
  | 0x6 => .aslZpX b1
  | 0x8 => .clc
  | 0x9 => .oraAbsY (wordOfBytes b1 b2)
  | 0xD => .oraAbsX (wordOfBytes b1 b2)
  | 0xE => .aslAbsX (wordOfBytes b1 b2)
  | _ => .undefined b0

/-- Row 2 of the opcode map (R94): the opcode bytes 0x20 to 0x2F, by their low nibble. -/
def decodeRow2 (lo : Nat) (b0 b1 b2 : Byte) : Instr :=
  match lo with
  | 0x0 => .jsr (wordOfBytes b1 b2)
  | 0x1 => .andIzX b1
  | 0x4 => .bitZp b1
  | 0x5 => .andZp b1
  | 0x6 => .rolZp b1
  | 0x8 => .plp
  | 0x9 => .andImm b1
  | 0xA => .rolAcc
  | 0xC => .bitAbs (wordOfBytes b1 b2)
  | 0xD => .andAbs (wordOfBytes b1 b2)
  | 0xE => .rolAbs (wordOfBytes b1 b2)
  | _ => .undefined b0

/-- Row 3 of the opcode map (R94): the opcode bytes 0x30 to 0x3F, by their low nibble. -/
def decodeRow3 (lo : Nat) (b0 b1 b2 : Byte) : Instr :=
  match lo with
  | 0x0 => .bmi b1
  | 0x1 => .andIzY b1
  | 0x5 => .andZpX b1
  | 0x6 => .rolZpX b1
  | 0x8 => .sec
  | 0x9 => .andAbsY (wordOfBytes b1 b2)
  | 0xD => .andAbsX (wordOfBytes b1 b2)
  | 0xE => .rolAbsX (wordOfBytes b1 b2)
  | _ => .undefined b0

/-- Row 4 of the opcode map (R94): the opcode bytes 0x40 to 0x4F, by their low nibble. -/
def decodeRow4 (lo : Nat) (b0 b1 b2 : Byte) : Instr :=
  match lo with
  | 0x0 => .rti
  | 0x1 => .eorIzX b1
  | 0x5 => .eorZp b1
  | 0x6 => .lsrZp b1
  | 0x8 => .pha
  | 0x9 => .eorImm b1
  | 0xA => .lsrAcc
  | 0xC => .jmpAbs (wordOfBytes b1 b2)
  | 0xD => .eorAbs (wordOfBytes b1 b2)
  | 0xE => .lsrAbs (wordOfBytes b1 b2)
  | _ => .undefined b0

/-- Row 5 of the opcode map (R94): the opcode bytes 0x50 to 0x5F, by their low nibble. -/
def decodeRow5 (lo : Nat) (b0 b1 b2 : Byte) : Instr :=
  match lo with
  | 0x0 => .bvc b1
  | 0x1 => .eorIzY b1
  | 0x5 => .eorZpX b1
  | 0x6 => .lsrZpX b1
  | 0x8 => .cli
  | 0x9 => .eorAbsY (wordOfBytes b1 b2)
  | 0xD => .eorAbsX (wordOfBytes b1 b2)
  | 0xE => .lsrAbsX (wordOfBytes b1 b2)
  | _ => .undefined b0

/-- Row 6 of the opcode map (R94): the opcode bytes 0x60 to 0x6F, by their low nibble. -/
def decodeRow6 (lo : Nat) (b0 b1 b2 : Byte) : Instr :=
  match lo with
  | 0x0 => .rts
  | 0x1 => .adcIzX b1
  | 0x5 => .adcZp b1
  | 0x6 => .rorZp b1
  | 0x8 => .pla
  | 0x9 => .adcImm b1
  | 0xA => .rorAcc
  | 0xC => .jmpInd (wordOfBytes b1 b2)
  | 0xD => .adcAbs (wordOfBytes b1 b2)
  | 0xE => .rorAbs (wordOfBytes b1 b2)
  | _ => .undefined b0

/-- Row 7 of the opcode map (R94): the opcode bytes 0x70 to 0x7F, by their low nibble. -/
def decodeRow7 (lo : Nat) (b0 b1 b2 : Byte) : Instr :=
  match lo with
  | 0x0 => .bvs b1
  | 0x1 => .adcIzY b1
  | 0x5 => .adcZpX b1
  | 0x6 => .rorZpX b1
  | 0x8 => .sei
  | 0x9 => .adcAbsY (wordOfBytes b1 b2)
  | 0xD => .adcAbsX (wordOfBytes b1 b2)
  | 0xE => .rorAbsX (wordOfBytes b1 b2)
  | _ => .undefined b0

/-- Row 8 of the opcode map (R94): the opcode bytes 0x80 to 0x8F, by their low nibble. -/
def decodeRow8 (lo : Nat) (b0 b1 b2 : Byte) : Instr :=
  match lo with
  | 0x1 => .staIzX b1
  | 0x4 => .styZp b1
  | 0x5 => .staZp b1
  | 0x6 => .stxZp b1
  | 0x8 => .dey
  | 0xA => .txa
  | 0xC => .styAbs (wordOfBytes b1 b2)
  | 0xD => .staAbs (wordOfBytes b1 b2)
  | 0xE => .stxAbs (wordOfBytes b1 b2)
  | _ => .undefined b0

/-- Row 9 of the opcode map (R94): the opcode bytes 0x90 to 0x9F, by their low nibble. -/
def decodeRow9 (lo : Nat) (b0 b1 b2 : Byte) : Instr :=
  match lo with
  | 0x0 => .bcc b1
  | 0x1 => .staIzY b1
  | 0x4 => .styZpX b1
  | 0x5 => .staZpX b1
  | 0x6 => .stxZpY b1
  | 0x8 => .tya
  | 0x9 => .staAbsY (wordOfBytes b1 b2)
  | 0xA => .txs
  | 0xD => .staAbsX (wordOfBytes b1 b2)
  | _ => .undefined b0

/-- Row A of the opcode map (R94): the opcode bytes 0xA0 to 0xAF, by their low nibble. -/
def decodeRowA (lo : Nat) (b0 b1 b2 : Byte) : Instr :=
  match lo with
  | 0x0 => .ldyImm b1
  | 0x1 => .ldaIzX b1
  | 0x2 => .ldxImm b1
  | 0x4 => .ldyZp b1
  | 0x5 => .ldaZp b1
  | 0x6 => .ldxZp b1
  | 0x8 => .tay
  | 0x9 => .ldaImm b1
  | 0xA => .tax
  | 0xC => .ldyAbs (wordOfBytes b1 b2)
  | 0xD => .ldaAbs (wordOfBytes b1 b2)
  | 0xE => .ldxAbs (wordOfBytes b1 b2)
  | _ => .undefined b0

/-- Row B of the opcode map (R94): the opcode bytes 0xB0 to 0xBF, by their low nibble. -/
def decodeRowB (lo : Nat) (b0 b1 b2 : Byte) : Instr :=
  match lo with
  | 0x0 => .bcs b1
  | 0x1 => .ldaIzY b1
  | 0x4 => .ldyZpX b1
  | 0x5 => .ldaZpX b1
  | 0x6 => .ldxZpY b1
  | 0x8 => .clv
  | 0x9 => .ldaAbsY (wordOfBytes b1 b2)
  | 0xA => .tsx
  | 0xC => .ldyAbsX (wordOfBytes b1 b2)
  | 0xD => .ldaAbsX (wordOfBytes b1 b2)
  | 0xE => .ldxAbsY (wordOfBytes b1 b2)
  | _ => .undefined b0

/-- Row C of the opcode map (R94): the opcode bytes 0xC0 to 0xCF, by their low nibble. -/
def decodeRowC (lo : Nat) (b0 b1 b2 : Byte) : Instr :=
  match lo with
  | 0x0 => .cpyImm b1
  | 0x1 => .cmpIzX b1
  | 0x4 => .cpyZp b1
  | 0x5 => .cmpZp b1
  | 0x6 => .decZp b1
  | 0x8 => .iny
  | 0x9 => .cmpImm b1
  | 0xA => .dex
  | 0xC => .cpyAbs (wordOfBytes b1 b2)
  | 0xD => .cmpAbs (wordOfBytes b1 b2)
  | 0xE => .decAbs (wordOfBytes b1 b2)
  | _ => .undefined b0

/-- Row D of the opcode map (R94): the opcode bytes 0xD0 to 0xDF, by their low nibble. -/
def decodeRowD (lo : Nat) (b0 b1 b2 : Byte) : Instr :=
  match lo with
  | 0x0 => .bne b1
  | 0x1 => .cmpIzY b1
  | 0x5 => .cmpZpX b1
  | 0x6 => .decZpX b1
  | 0x8 => .cld
  | 0x9 => .cmpAbsY (wordOfBytes b1 b2)
  | 0xD => .cmpAbsX (wordOfBytes b1 b2)
  | 0xE => .decAbsX (wordOfBytes b1 b2)
  | _ => .undefined b0

/-- Row E of the opcode map (R94): the opcode bytes 0xE0 to 0xEF, by their low nibble. -/
def decodeRowE (lo : Nat) (b0 b1 b2 : Byte) : Instr :=
  match lo with
  | 0x0 => .cpxImm b1
  | 0x1 => .sbcIzX b1
  | 0x4 => .cpxZp b1
  | 0x5 => .sbcZp b1
  | 0x6 => .incZp b1
  | 0x8 => .inx
  | 0x9 => .sbcImm b1
  | 0xA => .nop
  | 0xC => .cpxAbs (wordOfBytes b1 b2)
  | 0xD => .sbcAbs (wordOfBytes b1 b2)
  | 0xE => .incAbs (wordOfBytes b1 b2)
  | _ => .undefined b0

/-- Row F of the opcode map (R94): the opcode bytes 0xF0 to 0xFF, by their low nibble. -/
def decodeRowF (lo : Nat) (b0 b1 b2 : Byte) : Instr :=
  match lo with
  | 0x0 => .beq b1
  | 0x1 => .sbcIzY b1
  | 0x5 => .sbcZpX b1
  | 0x6 => .incZpX b1
  | 0x8 => .sed
  | 0x9 => .sbcAbsY (wordOfBytes b1 b2)
  | 0xD => .sbcAbsX (wordOfBytes b1 b2)
  | 0xE => .incAbsX (wordOfBytes b1 b2)
  | _ => .undefined b0

/-- The instruction that three consecutive bytes of memory begin: `b0` selects mnemonic and mode (R90, R93), and the
operand bytes follow as the mode's format says (R91). Bytes the format does not have are not looked at. -/
def decodeBytes (b0 b1 b2 : Byte) : Instr :=
  let lo := b0.toNat % 16
  match b0.toNat / 16 with
  | 0x0 => decodeRow0 lo b0 b1 b2
  | 0x1 => decodeRow1 lo b0 b1 b2
  | 0x2 => decodeRow2 lo b0 b1 b2
  | 0x3 => decodeRow3 lo b0 b1 b2
  | 0x4 => decodeRow4 lo b0 b1 b2
  | 0x5 => decodeRow5 lo b0 b1 b2
  | 0x6 => decodeRow6 lo b0 b1 b2
  | 0x7 => decodeRow7 lo b0 b1 b2
  | 0x8 => decodeRow8 lo b0 b1 b2
  | 0x9 => decodeRow9 lo b0 b1 b2
  | 0xA => decodeRowA lo b0 b1 b2
  | 0xB => decodeRowB lo b0 b1 b2
  | 0xC => decodeRowC lo b0 b1 b2
  | 0xD => decodeRowD lo b0 b1 b2
  | 0xE => decodeRowE lo b0 b1 b2
  | _ => decodeRowF lo b0 b1 b2

/-- The opcode byte of an instruction: the inverse reading of the opcode map (R94). -/
def Instr.opcode : Instr → Byte
  | .adcImm _ => 0x69#8
  | .adcZp _ => 0x65#8
  | .adcZpX _ => 0x75#8
  | .adcAbs _ => 0x6D#8
  | .adcAbsX _ => 0x7D#8
  | .adcAbsY _ => 0x79#8
  | .adcIzX _ => 0x61#8
  | .adcIzY _ => 0x71#8
  | .andImm _ => 0x29#8
  | .andZp _ => 0x25#8
  | .andZpX _ => 0x35#8
  | .andAbs _ => 0x2D#8
  | .andAbsX _ => 0x3D#8
  | .andAbsY _ => 0x39#8
  | .andIzX _ => 0x21#8
  | .andIzY _ => 0x31#8
  | .aslAcc => 0x0A#8
  | .aslZp _ => 0x06#8
  | .aslZpX _ => 0x16#8
  | .aslAbs _ => 0x0E#8
  | .aslAbsX _ => 0x1E#8
  | .bcc _ => 0x90#8
  | .bcs _ => 0xB0#8
  | .beq _ => 0xF0#8
  | .bitZp _ => 0x24#8
  | .bitAbs _ => 0x2C#8
  | .bmi _ => 0x30#8
  | .bne _ => 0xD0#8
  | .bpl _ => 0x10#8
  | .brk => 0x00#8
  | .bvc _ => 0x50#8
  | .bvs _ => 0x70#8
  | .clc => 0x18#8
  | .cld => 0xD8#8
  | .cli => 0x58#8
  | .clv => 0xB8#8
  | .cmpImm _ => 0xC9#8
  | .cmpZp _ => 0xC5#8
  | .cmpZpX _ => 0xD5#8
  | .cmpAbs _ => 0xCD#8
  | .cmpAbsX _ => 0xDD#8
  | .cmpAbsY _ => 0xD9#8
  | .cmpIzX _ => 0xC1#8
  | .cmpIzY _ => 0xD1#8
  | .cpxImm _ => 0xE0#8
  | .cpxZp _ => 0xE4#8
  | .cpxAbs _ => 0xEC#8
  | .cpyImm _ => 0xC0#8
  | .cpyZp _ => 0xC4#8
  | .cpyAbs _ => 0xCC#8
  | .decZp _ => 0xC6#8
  | .decZpX _ => 0xD6#8
  | .decAbs _ => 0xCE#8
  | .decAbsX _ => 0xDE#8
  | .dex => 0xCA#8
  | .dey => 0x88#8
  | .eorImm _ => 0x49#8
  | .eorZp _ => 0x45#8
  | .eorZpX _ => 0x55#8
  | .eorAbs _ => 0x4D#8
  | .eorAbsX _ => 0x5D#8
  | .eorAbsY _ => 0x59#8
  | .eorIzX _ => 0x41#8
  | .eorIzY _ => 0x51#8
  | .incZp _ => 0xE6#8
  | .incZpX _ => 0xF6#8
  | .incAbs _ => 0xEE#8
  | .incAbsX _ => 0xFE#8
  | .inx => 0xE8#8
  | .iny => 0xC8#8
  | .jmpAbs _ => 0x4C#8
  | .jmpInd _ => 0x6C#8
  | .jsr _ => 0x20#8
  | .ldaImm _ => 0xA9#8
  | .ldaZp _ => 0xA5#8
  | .ldaZpX _ => 0xB5#8
  | .ldaAbs _ => 0xAD#8
  | .ldaAbsX _ => 0xBD#8
  | .ldaAbsY _ => 0xB9#8
  | .ldaIzX _ => 0xA1#8
  | .ldaIzY _ => 0xB1#8
  | .ldxImm _ => 0xA2#8
  | .ldxZp _ => 0xA6#8
  | .ldxZpY _ => 0xB6#8
  | .ldxAbs _ => 0xAE#8
  | .ldxAbsY _ => 0xBE#8
  | .ldyImm _ => 0xA0#8
  | .ldyZp _ => 0xA4#8
  | .ldyZpX _ => 0xB4#8
  | .ldyAbs _ => 0xAC#8
  | .ldyAbsX _ => 0xBC#8
  | .lsrAcc => 0x4A#8
  | .lsrZp _ => 0x46#8
  | .lsrZpX _ => 0x56#8
  | .lsrAbs _ => 0x4E#8
  | .lsrAbsX _ => 0x5E#8
  | .nop => 0xEA#8
  | .oraImm _ => 0x09#8
  | .oraZp _ => 0x05#8
  | .oraZpX _ => 0x15#8
  | .oraAbs _ => 0x0D#8
  | .oraAbsX _ => 0x1D#8
  | .oraAbsY _ => 0x19#8
  | .oraIzX _ => 0x01#8
  | .oraIzY _ => 0x11#8
  | .pha => 0x48#8
  | .php => 0x08#8
  | .pla => 0x68#8
  | .plp => 0x28#8
  | .rolAcc => 0x2A#8
  | .rolZp _ => 0x26#8
  | .rolZpX _ => 0x36#8
  | .rolAbs _ => 0x2E#8
  | .rolAbsX _ => 0x3E#8
  | .rorAcc => 0x6A#8
  | .rorZp _ => 0x66#8
  | .rorZpX _ => 0x76#8
  | .rorAbs _ => 0x6E#8
  | .rorAbsX _ => 0x7E#8
  | .rti => 0x40#8
  | .rts => 0x60#8
  | .sbcImm _ => 0xE9#8
  | .sbcZp _ => 0xE5#8
  | .sbcZpX _ => 0xF5#8
  | .sbcAbs _ => 0xED#8
  | .sbcAbsX _ => 0xFD#8
  | .sbcAbsY _ => 0xF9#8
  | .sbcIzX _ => 0xE1#8
  | .sbcIzY _ => 0xF1#8
  | .sec => 0x38#8
  | .sed => 0xF8#8
  | .sei => 0x78#8
  | .staZp _ => 0x85#8
  | .staZpX _ => 0x95#8
  | .staAbs _ => 0x8D#8
  | .staAbsX _ => 0x9D#8
  | .staAbsY _ => 0x99#8
  | .staIzX _ => 0x81#8
  | .staIzY _ => 0x91#8
  | .stxZp _ => 0x86#8
  | .stxZpY _ => 0x96#8
  | .stxAbs _ => 0x8E#8
  | .styZp _ => 0x84#8
  | .styZpX _ => 0x94#8
  | .styAbs _ => 0x8C#8
  | .tax => 0xAA#8
  | .tay => 0xA8#8
  | .tsx => 0xBA#8
  | .txa => 0x8A#8
  | .txs => 0x9A#8
  | .tya => 0x98#8
  | .undefined op => op

/-- The operand bytes of an instruction in memory order (R91): the low byte of a 16-bit operand first. -/
def Instr.operandBytes : Instr → List Byte
  | .adcImm imm | .andImm imm | .cmpImm imm | .cpxImm imm | .cpyImm imm | .eorImm imm | .ldaImm imm | .ldxImm imm
  | .ldyImm imm | .oraImm imm | .sbcImm imm => [imm]
  | .adcZp zp | .adcZpX zp | .adcIzX zp | .adcIzY zp | .andZp zp | .andZpX zp | .andIzX zp | .andIzY zp
  | .aslZp zp | .aslZpX zp | .bitZp zp | .cmpZp zp | .cmpZpX zp | .cmpIzX zp | .cmpIzY zp | .cpxZp zp
  | .cpyZp zp | .decZp zp | .decZpX zp | .eorZp zp | .eorZpX zp | .eorIzX zp | .eorIzY zp | .incZp zp
  | .incZpX zp | .ldaZp zp | .ldaZpX zp | .ldaIzX zp | .ldaIzY zp | .ldxZp zp | .ldxZpY zp | .ldyZp zp
  | .ldyZpX zp | .lsrZp zp | .lsrZpX zp | .oraZp zp | .oraZpX zp | .oraIzX zp | .oraIzY zp | .rolZp zp
  | .rolZpX zp | .rorZp zp | .rorZpX zp | .sbcZp zp | .sbcZpX zp | .sbcIzX zp | .sbcIzY zp | .staZp zp
  | .staZpX zp | .staIzX zp | .staIzY zp | .stxZp zp | .stxZpY zp | .styZp zp | .styZpX zp => [zp]
  | .bcc rel | .bcs rel | .beq rel | .bmi rel | .bne rel | .bpl rel | .bvc rel | .bvs rel => [rel]
  | .adcAbs addr | .adcAbsX addr | .adcAbsY addr | .andAbs addr | .andAbsX addr | .andAbsY addr | .aslAbs addr | .aslAbsX addr
  | .bitAbs addr | .cmpAbs addr | .cmpAbsX addr | .cmpAbsY addr | .cpxAbs addr | .cpyAbs addr | .decAbs addr | .decAbsX addr
  | .eorAbs addr | .eorAbsX addr | .eorAbsY addr | .incAbs addr | .incAbsX addr | .jmpAbs addr | .jmpInd addr | .jsr addr
  | .ldaAbs addr | .ldaAbsX addr | .ldaAbsY addr | .ldxAbs addr | .ldxAbsY addr | .ldyAbs addr | .ldyAbsX addr | .lsrAbs addr
  | .lsrAbsX addr | .oraAbs addr | .oraAbsX addr | .oraAbsY addr | .rolAbs addr | .rolAbsX addr | .rorAbs addr | .rorAbsX addr
  | .sbcAbs addr | .sbcAbsX addr | .sbcAbsY addr | .staAbs addr | .staAbsX addr | .staAbsY addr | .stxAbs addr | .styAbs addr => [loByte addr, hiByte addr]
  | .aslAcc | .brk | .clc | .cld | .cli | .clv | .dex | .dey
  | .inx | .iny | .lsrAcc | .nop | .pha | .php | .pla | .plp
  | .rolAcc | .rorAcc | .rti | .rts | .sec | .sed | .sei | .tax
  | .tay | .tsx | .txa | .txs | .tya | .undefined _ => []

/-- The bytes of an instruction: the opcode byte and then its operand bytes (R90). -/
def encode (i : Instr) : List Byte := i.opcode :: i.operandBytes

/-- The length of an instruction in bytes, by R91. An opcode byte with no Instruction is the one byte that is
fetched. -/
def Instr.length (i : Instr) : Nat := 1 + i.operandBytes.length

/-- The addressing mode of an instruction (R94); an opcode byte with no Instruction has none. -/
def Instr.mode? : Instr → Option Mode
  | .brk | .clc | .cld | .cli | .clv | .dex | .dey | .inx
  | .iny | .nop | .pha | .php | .pla | .plp | .rti | .rts
  | .sec | .sed | .sei | .tax | .tay | .tsx | .txa | .txs
  | .tya => some .implied
  | .aslAcc | .lsrAcc | .rolAcc | .rorAcc => some .accumulator
  | .adcImm _ | .andImm _ | .cmpImm _ | .cpxImm _ | .cpyImm _ | .eorImm _ | .ldaImm _ | .ldxImm _
  | .ldyImm _ | .oraImm _ | .sbcImm _ => some .immediate
  | .adcZp _ | .andZp _ | .aslZp _ | .bitZp _ | .cmpZp _ | .cpxZp _ | .cpyZp _ | .decZp _
  | .eorZp _ | .incZp _ | .ldaZp _ | .ldxZp _ | .ldyZp _ | .lsrZp _ | .oraZp _ | .rolZp _
  | .rorZp _ | .sbcZp _ | .staZp _ | .stxZp _ | .styZp _ => some .zeroPage
  | .adcZpX _ | .andZpX _ | .aslZpX _ | .cmpZpX _ | .decZpX _ | .eorZpX _ | .incZpX _ | .ldaZpX _
  | .ldyZpX _ | .lsrZpX _ | .oraZpX _ | .rolZpX _ | .rorZpX _ | .sbcZpX _ | .staZpX _ | .styZpX _ => some .zeroPageX
  | .ldxZpY _ | .stxZpY _ => some .zeroPageY
  | .bcc _ | .bcs _ | .beq _ | .bmi _ | .bne _ | .bpl _ | .bvc _ | .bvs _ => some .relative
  | .adcAbs _ | .andAbs _ | .aslAbs _ | .bitAbs _ | .cmpAbs _ | .cpxAbs _ | .cpyAbs _ | .decAbs _
  | .eorAbs _ | .incAbs _ | .jmpAbs _ | .jsr _ | .ldaAbs _ | .ldxAbs _ | .ldyAbs _ | .lsrAbs _
  | .oraAbs _ | .rolAbs _ | .rorAbs _ | .sbcAbs _ | .staAbs _ | .stxAbs _ | .styAbs _ => some .absolute
  | .adcAbsX _ | .andAbsX _ | .aslAbsX _ | .cmpAbsX _ | .decAbsX _ | .eorAbsX _ | .incAbsX _ | .ldaAbsX _
  | .ldyAbsX _ | .lsrAbsX _ | .oraAbsX _ | .rolAbsX _ | .rorAbsX _ | .sbcAbsX _ | .staAbsX _ => some .absoluteX
  | .adcAbsY _ | .andAbsY _ | .cmpAbsY _ | .eorAbsY _ | .ldaAbsY _ | .ldxAbsY _ | .oraAbsY _ | .sbcAbsY _
  | .staAbsY _ => some .absoluteY
  | .jmpInd _ => some .indirect
  | .adcIzX _ | .andIzX _ | .cmpIzX _ | .eorIzX _ | .ldaIzX _ | .oraIzX _ | .sbcIzX _ | .staIzX _ => some .indexedIndirect
  | .adcIzY _ | .andIzY _ | .cmpIzY _ | .eorIzY _ | .ldaIzY _ | .oraIzY _ | .sbcIzY _ | .staIzY _ => some .indirectIndexed
  | .undefined _ => none

/-- The mnemonic of an instruction (R94); an opcode byte with no Instruction has none. -/
def Instr.mnemonic? : Instr → Option Mnemonic
  | .adcImm _ | .adcZp _ | .adcZpX _ | .adcAbs _ | .adcAbsX _ | .adcAbsY _ | .adcIzX _ | .adcIzY _ => some .adc
  | .andImm _ | .andZp _ | .andZpX _ | .andAbs _ | .andAbsX _ | .andAbsY _ | .andIzX _ | .andIzY _ => some .and
  | .aslAcc | .aslZp _ | .aslZpX _ | .aslAbs _ | .aslAbsX _ => some .asl
  | .bcc _ => some .bcc
  | .bcs _ => some .bcs
  | .beq _ => some .beq
  | .bitZp _ | .bitAbs _ => some .bit
  | .bmi _ => some .bmi
  | .bne _ => some .bne
  | .bpl _ => some .bpl
  | .brk => some .brk
  | .bvc _ => some .bvc
  | .bvs _ => some .bvs
  | .clc => some .clc
  | .cld => some .cld
  | .cli => some .cli
  | .clv => some .clv
  | .cmpImm _ | .cmpZp _ | .cmpZpX _ | .cmpAbs _ | .cmpAbsX _ | .cmpAbsY _ | .cmpIzX _ | .cmpIzY _ => some .cmp
  | .cpxImm _ | .cpxZp _ | .cpxAbs _ => some .cpx
  | .cpyImm _ | .cpyZp _ | .cpyAbs _ => some .cpy
  | .decZp _ | .decZpX _ | .decAbs _ | .decAbsX _ => some .dec
  | .dex => some .dex
  | .dey => some .dey
  | .eorImm _ | .eorZp _ | .eorZpX _ | .eorAbs _ | .eorAbsX _ | .eorAbsY _ | .eorIzX _ | .eorIzY _ => some .eor
  | .incZp _ | .incZpX _ | .incAbs _ | .incAbsX _ => some .inc
  | .inx => some .inx
  | .iny => some .iny
  | .jmpAbs _ | .jmpInd _ => some .jmp
  | .jsr _ => some .jsr
  | .ldaImm _ | .ldaZp _ | .ldaZpX _ | .ldaAbs _ | .ldaAbsX _ | .ldaAbsY _ | .ldaIzX _ | .ldaIzY _ => some .lda
  | .ldxImm _ | .ldxZp _ | .ldxZpY _ | .ldxAbs _ | .ldxAbsY _ => some .ldx
  | .ldyImm _ | .ldyZp _ | .ldyZpX _ | .ldyAbs _ | .ldyAbsX _ => some .ldy
  | .lsrAcc | .lsrZp _ | .lsrZpX _ | .lsrAbs _ | .lsrAbsX _ => some .lsr
  | .nop => some .nop
  | .oraImm _ | .oraZp _ | .oraZpX _ | .oraAbs _ | .oraAbsX _ | .oraAbsY _ | .oraIzX _ | .oraIzY _ => some .ora
  | .pha => some .pha
  | .php => some .php
  | .pla => some .pla
  | .plp => some .plp
  | .rolAcc | .rolZp _ | .rolZpX _ | .rolAbs _ | .rolAbsX _ => some .rol
  | .rorAcc | .rorZp _ | .rorZpX _ | .rorAbs _ | .rorAbsX _ => some .ror
  | .rti => some .rti
  | .rts => some .rts
  | .sbcImm _ | .sbcZp _ | .sbcZpX _ | .sbcAbs _ | .sbcAbsX _ | .sbcAbsY _ | .sbcIzX _ | .sbcIzY _ => some .sbc
  | .sec => some .sec
  | .sed => some .sed
  | .sei => some .sei
  | .staZp _ | .staZpX _ | .staAbs _ | .staAbsX _ | .staAbsY _ | .staIzX _ | .staIzY _ => some .sta
  | .stxZp _ | .stxZpY _ | .stxAbs _ => some .stx
  | .styZp _ | .styZpX _ | .styAbs _ => some .sty
  | .tax => some .tax
  | .tay => some .tay
  | .tsx => some .tsx
  | .txa => some .txa
  | .txs => some .txs
  | .tya => some .tya
  | .undefined _ => none

/-- Why a list of bytes does not hold a whole instruction. -/
inductive DecodeError where
  /-- There is no opcode byte. -/
  | noBytes
  /-- The opcode byte's format has more operand bytes than follow it. -/
  | truncated (op : Byte)
  deriving DecidableEq, Repr

/-- How many operand bytes a format has, by the table of R91. -/
def Mode.operandLength : Mode → Nat
  | .implied | .accumulator => 0
  | .immediate | .zeroPage | .zeroPageX | .zeroPageY | .relative | .indexedIndirect | .indirectIndexed => 1
  | .absolute | .absoluteX | .absoluteY | .indirect => 2

/-- Decode the instruction at the head of a list of bytes and answer it with the bytes after it. Total: a list too
short for the format is rejected by name. -/
def decode (bs : List Byte) : Except DecodeError (Instr × List Byte) :=
  match bs with
  | [] => .error .noBytes
  | b0 :: rest =>
    let i := decodeBytes b0 (rest.getD 0 0#8) (rest.getD 1 0#8)
    if i.operandBytes.length ≤ rest.length then .ok (i, rest.drop i.operandBytes.length)
    else .error (.truncated b0)

/-- The first three bytes of an instruction whose bits are `w` (bit 0 is bit 0 of the opcode byte), the bits from
`nbits` up being 0. -/
def tableBytes (nbits w : Nat) : Byte × Byte × Byte :=
  let v := w % 2 ^ nbits
  (BitVec.ofNat 8 v, BitVec.ofNat 8 (v / 256), BitVec.ofNat 8 (v / 65536))

/-- The instruction the decoder reads from the bits `w` of a row of spec/opcode_table.json. -/
def decodeTableWord (nbits w : Nat) : Option Instr :=
  let (b0, b1, b2) := tableBytes nbits w
  match decode [b0, b1, b2] with
  | .ok (i, _) => some i
  | .error _ => none

/-- The opcode map as the source's `decode: byte → Instruction` is typed (R93): opcode byte to mnemonic and mode,
transcribed from the 16 × 16 matrix of R94 and used by the literal step algorithm of Machine/Algorithm.lean. -/
def opcodeMapRow (hi lo : Nat) : Option (Mnemonic × Mode) :=
  match hi, lo with
  | 0x0, 0x0 => some (.brk, .implied)
  | 0x0, 0x1 => some (.ora, .indexedIndirect)
  | 0x0, 0x5 => some (.ora, .zeroPage)
  | 0x0, 0x6 => some (.asl, .zeroPage)
  | 0x0, 0x8 => some (.php, .implied)
  | 0x0, 0x9 => some (.ora, .immediate)
  | 0x0, 0xA => some (.asl, .accumulator)
  | 0x0, 0xD => some (.ora, .absolute)
  | 0x0, 0xE => some (.asl, .absolute)
  | 0x1, 0x0 => some (.bpl, .relative)
  | 0x1, 0x1 => some (.ora, .indirectIndexed)
  | 0x1, 0x5 => some (.ora, .zeroPageX)
  | 0x1, 0x6 => some (.asl, .zeroPageX)
  | 0x1, 0x8 => some (.clc, .implied)
  | 0x1, 0x9 => some (.ora, .absoluteY)
  | 0x1, 0xD => some (.ora, .absoluteX)
  | 0x1, 0xE => some (.asl, .absoluteX)
  | 0x2, 0x0 => some (.jsr, .absolute)
  | 0x2, 0x1 => some (.and, .indexedIndirect)
  | 0x2, 0x4 => some (.bit, .zeroPage)
  | 0x2, 0x5 => some (.and, .zeroPage)
  | 0x2, 0x6 => some (.rol, .zeroPage)
  | 0x2, 0x8 => some (.plp, .implied)
  | 0x2, 0x9 => some (.and, .immediate)
  | 0x2, 0xA => some (.rol, .accumulator)
  | 0x2, 0xC => some (.bit, .absolute)
  | 0x2, 0xD => some (.and, .absolute)
  | 0x2, 0xE => some (.rol, .absolute)
  | 0x3, 0x0 => some (.bmi, .relative)
  | 0x3, 0x1 => some (.and, .indirectIndexed)
  | 0x3, 0x5 => some (.and, .zeroPageX)
  | 0x3, 0x6 => some (.rol, .zeroPageX)
  | 0x3, 0x8 => some (.sec, .implied)
  | 0x3, 0x9 => some (.and, .absoluteY)
  | 0x3, 0xD => some (.and, .absoluteX)
  | 0x3, 0xE => some (.rol, .absoluteX)
  | 0x4, 0x0 => some (.rti, .implied)
  | 0x4, 0x1 => some (.eor, .indexedIndirect)
  | 0x4, 0x5 => some (.eor, .zeroPage)
  | 0x4, 0x6 => some (.lsr, .zeroPage)
  | 0x4, 0x8 => some (.pha, .implied)
  | 0x4, 0x9 => some (.eor, .immediate)
  | 0x4, 0xA => some (.lsr, .accumulator)
  | 0x4, 0xC => some (.jmp, .absolute)
  | 0x4, 0xD => some (.eor, .absolute)
  | 0x4, 0xE => some (.lsr, .absolute)
  | 0x5, 0x0 => some (.bvc, .relative)
  | 0x5, 0x1 => some (.eor, .indirectIndexed)
  | 0x5, 0x5 => some (.eor, .zeroPageX)
  | 0x5, 0x6 => some (.lsr, .zeroPageX)
  | 0x5, 0x8 => some (.cli, .implied)
  | 0x5, 0x9 => some (.eor, .absoluteY)
  | 0x5, 0xD => some (.eor, .absoluteX)
  | 0x5, 0xE => some (.lsr, .absoluteX)
  | 0x6, 0x0 => some (.rts, .implied)
  | 0x6, 0x1 => some (.adc, .indexedIndirect)
  | 0x6, 0x5 => some (.adc, .zeroPage)
  | 0x6, 0x6 => some (.ror, .zeroPage)
  | 0x6, 0x8 => some (.pla, .implied)
  | 0x6, 0x9 => some (.adc, .immediate)
  | 0x6, 0xA => some (.ror, .accumulator)
  | 0x6, 0xC => some (.jmp, .indirect)
  | 0x6, 0xD => some (.adc, .absolute)
  | 0x6, 0xE => some (.ror, .absolute)
  | 0x7, 0x0 => some (.bvs, .relative)
  | 0x7, 0x1 => some (.adc, .indirectIndexed)
  | 0x7, 0x5 => some (.adc, .zeroPageX)
  | 0x7, 0x6 => some (.ror, .zeroPageX)
  | 0x7, 0x8 => some (.sei, .implied)
  | 0x7, 0x9 => some (.adc, .absoluteY)
  | 0x7, 0xD => some (.adc, .absoluteX)
  | 0x7, 0xE => some (.ror, .absoluteX)
  | 0x8, 0x1 => some (.sta, .indexedIndirect)
  | 0x8, 0x4 => some (.sty, .zeroPage)
  | 0x8, 0x5 => some (.sta, .zeroPage)
  | 0x8, 0x6 => some (.stx, .zeroPage)
  | 0x8, 0x8 => some (.dey, .implied)
  | 0x8, 0xA => some (.txa, .implied)
  | 0x8, 0xC => some (.sty, .absolute)
  | 0x8, 0xD => some (.sta, .absolute)
  | 0x8, 0xE => some (.stx, .absolute)
  | 0x9, 0x0 => some (.bcc, .relative)
  | 0x9, 0x1 => some (.sta, .indirectIndexed)
  | 0x9, 0x4 => some (.sty, .zeroPageX)
  | 0x9, 0x5 => some (.sta, .zeroPageX)
  | 0x9, 0x6 => some (.stx, .zeroPageY)
  | 0x9, 0x8 => some (.tya, .implied)
  | 0x9, 0x9 => some (.sta, .absoluteY)
  | 0x9, 0xA => some (.txs, .implied)
  | 0x9, 0xD => some (.sta, .absoluteX)
  | 0xA, 0x0 => some (.ldy, .immediate)
  | 0xA, 0x1 => some (.lda, .indexedIndirect)
  | 0xA, 0x2 => some (.ldx, .immediate)
  | 0xA, 0x4 => some (.ldy, .zeroPage)
  | 0xA, 0x5 => some (.lda, .zeroPage)
  | 0xA, 0x6 => some (.ldx, .zeroPage)
  | 0xA, 0x8 => some (.tay, .implied)
  | 0xA, 0x9 => some (.lda, .immediate)
  | 0xA, 0xA => some (.tax, .implied)
  | 0xA, 0xC => some (.ldy, .absolute)
  | 0xA, 0xD => some (.lda, .absolute)
  | 0xA, 0xE => some (.ldx, .absolute)
  | 0xB, 0x0 => some (.bcs, .relative)
  | 0xB, 0x1 => some (.lda, .indirectIndexed)
  | 0xB, 0x4 => some (.ldy, .zeroPageX)
  | 0xB, 0x5 => some (.lda, .zeroPageX)
  | 0xB, 0x6 => some (.ldx, .zeroPageY)
  | 0xB, 0x8 => some (.clv, .implied)
  | 0xB, 0x9 => some (.lda, .absoluteY)
  | 0xB, 0xA => some (.tsx, .implied)
  | 0xB, 0xC => some (.ldy, .absoluteX)
  | 0xB, 0xD => some (.lda, .absoluteX)
  | 0xB, 0xE => some (.ldx, .absoluteY)
  | 0xC, 0x0 => some (.cpy, .immediate)
  | 0xC, 0x1 => some (.cmp, .indexedIndirect)
  | 0xC, 0x4 => some (.cpy, .zeroPage)
  | 0xC, 0x5 => some (.cmp, .zeroPage)
  | 0xC, 0x6 => some (.dec, .zeroPage)
  | 0xC, 0x8 => some (.iny, .implied)
  | 0xC, 0x9 => some (.cmp, .immediate)
  | 0xC, 0xA => some (.dex, .implied)
  | 0xC, 0xC => some (.cpy, .absolute)
  | 0xC, 0xD => some (.cmp, .absolute)
  | 0xC, 0xE => some (.dec, .absolute)
  | 0xD, 0x0 => some (.bne, .relative)
  | 0xD, 0x1 => some (.cmp, .indirectIndexed)
  | 0xD, 0x5 => some (.cmp, .zeroPageX)
  | 0xD, 0x6 => some (.dec, .zeroPageX)
  | 0xD, 0x8 => some (.cld, .implied)
  | 0xD, 0x9 => some (.cmp, .absoluteY)
  | 0xD, 0xD => some (.cmp, .absoluteX)
  | 0xD, 0xE => some (.dec, .absoluteX)
  | 0xE, 0x0 => some (.cpx, .immediate)
  | 0xE, 0x1 => some (.sbc, .indexedIndirect)
  | 0xE, 0x4 => some (.cpx, .zeroPage)
  | 0xE, 0x5 => some (.sbc, .zeroPage)
  | 0xE, 0x6 => some (.inc, .zeroPage)
  | 0xE, 0x8 => some (.inx, .implied)
  | 0xE, 0x9 => some (.sbc, .immediate)
  | 0xE, 0xA => some (.nop, .implied)
  | 0xE, 0xC => some (.cpx, .absolute)
  | 0xE, 0xD => some (.sbc, .absolute)
  | 0xE, 0xE => some (.inc, .absolute)
  | 0xF, 0x0 => some (.beq, .relative)
  | 0xF, 0x1 => some (.sbc, .indirectIndexed)
  | 0xF, 0x5 => some (.sbc, .zeroPageX)
  | 0xF, 0x6 => some (.inc, .zeroPageX)
  | 0xF, 0x8 => some (.sed, .implied)
  | 0xF, 0x9 => some (.sbc, .absoluteY)
  | 0xF, 0xD => some (.sbc, .absoluteX)
  | 0xF, 0xE => some (.inc, .absoluteX)
  | _, _ => none

/-- `decode` of R93: the mnemonic and the mode of an opcode byte, or none for the 105 bytes of R97. -/
def opcodeMap (op : Byte) : Option (Mnemonic × Mode) := opcodeMapRow (op.toNat / 16) (op.toNat % 16)

/-- The length of an opcode byte's format in bytes (R91): the one byte that is fetched where it has no Instruction. -/
def formatLength (op : Byte) : Nat :=
  match opcodeMap op with
  | some (_, mode) => 1 + mode.operandLength
  | none => 1

end Sys2Proof
end

