-- ==== Sys2Proof/Machine/State.lean ====
section
/-! DEFINITION. The state of the hnes CORE as plain data, the ways a step can stop, what the host may do, and the
state after reset. -/

namespace Sys2Proof.Machine

/-- CpuInterruptLatch: nothing pending, or NMI pending (R29). -/
inductive Latch where
  | none
  | nmi
  deriving DecidableEq, Repr

/-- The four kinds of unimplemented feature (R311). -/
inductive FeatureKind where
  | undefinedOpcode
  | unhandledAddressingMode
  | unimplementedMnemonic
  | bitStub
  deriving DecidableEq, Repr

/-- The fatal faults (R310): the step that raises one has no next state, and nothing runs afterwards (R315). -/
inductive Fault where
  /-- `Fatal.UnimplementedFeature(kind, pcv, op)` (R311): raised by the meanings of the instructions that have no
  handler, of `BIT`, and of opcode bytes with no Instruction. Safe: the spec names the fault. -/
  | unimplementedFeature (kind : FeatureKind) (pcv : Word) (op : Byte)
  /-- `Fatal.InvariantViolation(scanline, cycle)` (R312): raised by the PPU step for a scanline outside 0 to 261. Safe:
  the spec names the fault. -/
  | invariantViolation (scanline cycle : Nat)
  /-- `Fatal.OutOfContract(FramebufferRow, x, y')` (R314): raised by the renderer for a row above 239. Safe: the spec
  stops here where the source's implementation is silent (log 19). -/
  | framebufferRow (x y' : Nat)
  deriving DecidableEq, Repr

/-- The actions the machine declines without a meaning for them. -/
inductive Refusal where
  /-- Raised by `exec` for an instruction without a meaning. No arm raises it. Safe. -/
  | notModelled (mnemonic : String)
  /-- Raised by a host turn that would store PpuCycles or Scanline outside its range (R37, R38, D24). Safe: the spec
  says that the store is refused. -/
  | hostStoreOutOfRange (reg : PpuReg) (value : Nat)
  deriving DecidableEq, Repr

/-- What the host may do between steps (R352): a store to one key of the AddressSpace, or the PPU's `reset()` (R342).
A counter's new value is any number, because the host may ask for one that is refused (R37, R38).
The framebuffer is written by the renderer only (R42), so there is no store to a pixel (log 15). -/
inductive HostAction where
  | storeCpuRam (addr : Word) (v : Byte)
  | storeA (v : Byte)
  | storeX (v : Byte)
  | storeY (v : Byte)
  | storeSp (v : Byte)
  | storeP (v : Byte)
  | storePc (v : Word)
  | storeLatch (v : Latch)
  | storeScrollX (v : Byte)
  | storeScrollY (v : Byte)
  | storeNameTableAddr (v : Word)
  | storeBackgroundTableAddr (v : Word)
  | storeGenerateNmi (v : Bool)
  | storeVerticalBlank (v : Bool)
  | storePpuCycles (v : Nat)
  | storeScanline (v : Nat)
  | storeFrameCount (v : Nat)
  | storePpuMemory (addr : Word) (v : Byte)
  | resetPpu
  deriving DecidableEq, Repr

/-- Whose move it is: an engine's whole step, or a host action (R347). -/
inductive Turn where
  | cpu
  | ppu
  | host (act : HostAction)
  deriving DecidableEq, Repr

/-- The keys of the AddressSpace: a closed union of locations (R20), with the framebuffer's 256 × 240 cells (R42). -/
inductive Key where
  | cpuRam16 (addr : Word)
  | cpuRegister (r : CpuReg)
  | cpuInterruptLatch
  | ppuRegister (r : PpuReg)
  | ppuMemory8 (addr : Word)
  | screenPixel (x : Fin 256) (y : Fin 240)
  deriving DecidableEq, Repr

/-- One access of a step to memory or to the framebuffer (R78). -/
inductive Access where
  | cpuRead (addr : Word)
  | cpuWrite (addr : Word) (v : Byte)
  | ppuRead (addr : Word)
  | screenWrite (x y : Nat) (v : Rgb)
  deriving DecidableEq, Repr

/-- A byte memory: the cells that differ from what an unlisted cell reads as, by rising address (log 5). -/
abbrev Memory := List Host.Cell

/-- The framebuffer: the cells written since launch, by rising cell number `256 × y + x`. Every other cell holds its
launch value, which is arbitrary and fixed (R42, R46, log 6). -/
abbrev Framebuffer := List (Nat × Rgb)

/-- The machine's state, exactly: the contents of the AddressSpace (R20) and the fault record (R43), and nothing else
(R7, R44). -/
structure CoreState where
  /-- A, the accumulator (R21). -/
  a : Byte
  /-- X (R22). -/
  x : Byte
  /-- Y (R23). -/
  y : Byte
  /-- Sp, the low byte of the stack address (R24). -/
  sp : Byte
  /-- Pc (R25). -/
  pc : Word
  /-- P, the flag register (R26). -/
  p : Byte
  /-- CPU memory (R40). -/
  cpuMem : Memory
  /-- CpuInterruptLatch (R29). -/
  latch : Latch
  /-- ScrollX (R31). -/
  scrollX : Byte
  /-- ScrollY (R32). -/
  scrollY : Byte
  /-- NameTableAddr (R33). -/
  nameTableAddr : Word
  /-- BackgroundTableAddr (R34). -/
  backgroundTableAddr : Word
  /-- GenerateNMI (R35). -/
  generateNmi : Bool
  /-- VerticalBlank (R36). -/
  verticalBlank : Bool
  /-- PpuCycles (R37): the type holds no value outside 0 to 340. -/
  ppuCycles : Fin 341
  /-- Scanline (R38), 0 to 261 by the invariant. -/
  scanline : Nat
  /-- FrameCount (R39). -/
  frameCount : Nat
  /-- PPU memory (R41). -/
  ppuMem : Memory
  /-- The framebuffer (R42). -/
  screen : Framebuffer
  /-- The fault record (R43). -/
  faultRecord : Option Fault
  deriving DecidableEq, Repr

/-- What the host's interface steps: the machine's state, and beside it the driver's schedule, which is no state of the
machine (R7, R47). The interface's step has no other argument to carry that parameter (R347; log 7). -/
structure State extends CoreState where
  /-- The model's own field: the turns the driver means to take next, the first one first. -/
  turns : List Turn
  /-- The model's own field: the turns the driver repeats for ever after those. With none listed the CPU moves. -/
  cycle : List Turn
  deriving DecidableEq, Repr

/-- What one engine step, host action or meaning answers. -/
abbrev Result := Host.Outcome State Fault Refusal

/-- The state after reset: PpuCycles, Scanline, VerticalBlank and the fault record as R45 and R342 say, every other
field at the value that logs 4 to 7 name. -/
def State.reset : State where
  a := 0x00#8
  x := 0x00#8
  y := 0x00#8
  sp := 0x00#8
  pc := 0x0000#16
  p := 0x00#8
  cpuMem := []
  latch := .none
  scrollX := 0x00#8
  scrollY := 0x00#8
  nameTableAddr := 0x0000#16
  backgroundTableAddr := 0x0000#16
  generateNmi := false
  verticalBlank := false
  ppuCycles := 340
  scanline := 240
  frameCount := 0
  ppuMem := []
  screen := []
  faultRecord := .none
  turns := []
  cycle := []

end Sys2Proof.Machine
end

