-- ==== Sys2Proof/Machine/Ops.lean ====
section
/-! DEFINITION. The named operations over registers and memories: one setter a field, cell lists, byte and word access,
the framebuffer, the stack, raising a fatal fault and recording it, and fetching an instruction. -/

namespace Sys2Proof.Machine

/-! ## One setter for each field of State -/

/-- Store to `a`, leaving every other field. -/
def State.setA (s : State) (v : Byte) : State := { s with a := v }

/-- Store to `x`, leaving every other field. -/
def State.setX (s : State) (v : Byte) : State := { s with x := v }

/-- Store to `y`, leaving every other field. -/
def State.setY (s : State) (v : Byte) : State := { s with y := v }

/-- Store to `sp`, leaving every other field. -/
def State.setSp (s : State) (v : Byte) : State := { s with sp := v }

/-- Store to `pc`, leaving every other field. -/
def State.setPc (s : State) (v : Word) : State := { s with pc := v }

/-- Store to `p`, leaving every other field. -/
def State.setP (s : State) (v : Byte) : State := { s with p := v }

/-- Store to `cpuMem`, leaving every other field. -/
def State.setCpuMem (s : State) (v : Memory) : State := { s with cpuMem := v }

/-- Store to `latch`, leaving every other field. -/
def State.setLatch (s : State) (v : Latch) : State := { s with latch := v }

/-- Store to `scrollX`, leaving every other field. -/
def State.setScrollX (s : State) (v : Byte) : State := { s with scrollX := v }

/-- Store to `scrollY`, leaving every other field. -/
def State.setScrollY (s : State) (v : Byte) : State := { s with scrollY := v }

/-- Store to `nameTableAddr`, leaving every other field. -/
def State.setNameTableAddr (s : State) (v : Word) : State := { s with nameTableAddr := v }

/-- Store to `backgroundTableAddr`, leaving every other field. -/
def State.setBackgroundTableAddr (s : State) (v : Word) : State := { s with backgroundTableAddr := v }

/-- Store to `generateNmi`, leaving every other field. -/
def State.setGenerateNmi (s : State) (v : Bool) : State := { s with generateNmi := v }

/-- Store to `verticalBlank`, leaving every other field. -/
def State.setVerticalBlank (s : State) (v : Bool) : State := { s with verticalBlank := v }

/-- Store to `ppuCycles`, leaving every other field. -/
def State.setPpuCycles (s : State) (v : Fin 341) : State := { s with ppuCycles := v }

/-- Store to `scanline`, leaving every other field. -/
def State.setScanline (s : State) (v : Nat) : State := { s with scanline := v }

/-- Store to `frameCount`, leaving every other field. -/
def State.setFrameCount (s : State) (v : Nat) : State := { s with frameCount := v }

/-- Store to `ppuMem`, leaving every other field. -/
def State.setPpuMem (s : State) (v : Memory) : State := { s with ppuMem := v }

/-- Store to `screen`, leaving every other field. -/
def State.setScreen (s : State) (v : Framebuffer) : State := { s with screen := v }

/-- Store to `faultRecord`, leaving every other field. -/
def State.setFaultRecord (s : State) (v : Option Fault) : State := { s with faultRecord := v }

/-- Store to `turns`, leaving every other field. -/
def State.setTurns (s : State) (v : List Turn) : State := { s with turns := v }

/-- Store to `cycle`, leaving every other field. -/
def State.setCycle (s : State) (v : List Turn) : State := { s with cycle := v }

/-! ## Lists of cells by rising key -/

/-- The value a list of cells holds under a key, if it lists one. -/
def lookupCell {α : Type} : List (Nat × α) → Nat → Option α
  | [], _ => none
  | (k, w) :: rest, n => if k = n then some w else lookupCell rest n

/-- Put a value under a key, keeping the keys in rising order. -/
def insertCell {α : Type} : List (Nat × α) → Nat → α → List (Nat × α)
  | [], n, v => [(n, v)]
  | (k, w) :: rest, n, v =>
    if n < k then (n, v) :: (k, w) :: rest
    else if k = n then (n, v) :: rest
    else (k, w) :: insertCell rest n v

/-- Take the key out. -/
def eraseCell {α : Type} : List (Nat × α) → Nat → List (Nat × α)
  | [], _ => []
  | (k, w) :: rest, n => if k = n then eraseCell rest n else (k, w) :: eraseCell rest n

/-- The keys rise strictly: each cell is listed at most once, in order. -/
abbrev keysRise {α : Type} (m : List (Nat × α)) : Prop := m.Pairwise (fun c d => c.1 < d.1)

/-! ## Byte memories (R40, R41) -/

/-- What a cell that the list does not name reads as. The spec fixes no value (R46), only that it is one fixed byte;
0x00 is the model's choice of representation (log 5). -/
def unlistedByte : Byte := 0x00#8

/-- The canonical form: keys rise, lie in the 16-bit address space, and no cell holds what an unlisted one reads as. -/
abbrev Memory.wf (m : Memory) : Prop :=
  keysRise m ∧ ∀ c ∈ m, c.1 < 65536 ∧ c.2 ≠ unlistedByte

/-- One byte (R61, R76). -/
def Memory.read (m : Memory) (addr : Word) : Byte := (lookupCell m addr.toNat).getD unlistedByte

/-- Replace one byte (R61), keeping the canonical form. -/
def Memory.write (m : Memory) (addr : Word) (v : Byte) : Memory :=
  if v = unlistedByte then eraseCell m addr.toNat else insertCell m addr.toNat v

/-- A 16-bit little-endian load (R62); the second address wraps modulo 65536 (R63, D6). -/
def Memory.readWord (m : Memory) (addr : Word) : Word := wordOfBytes (m.read addr) (m.read (addr + 1))

/-- `MemRead(addr, 1)` (R61). -/
def State.readCpu (s : State) (addr : Word) : Byte := s.cpuMem.read addr

/-- `MemRead(addr, 2)` (R62). -/
def State.readCpuWord (s : State) (addr : Word) : Word := s.cpuMem.readWord addr

/-- `MemWrite(addr, 1, v)` (R61). -/
def State.writeCpu (s : State) (addr : Word) (v : Byte) : State := s.setCpuMem (s.cpuMem.write addr v)

/-- `PpuRead(addr)` (R76). -/
def State.readPpu (s : State) (addr : Word) : Byte := s.ppuMem.read addr

/-! ## The framebuffer (R42, R77) -/

/-- The number of the framebuffer cell `(x, y)`. -/
def cellNumber (x y : Nat) : Nat := 256 * y + x

/-- The canonical form: keys rise and name one of the 61,440 cells. -/
abbrev Framebuffer.wf (m : Framebuffer) : Prop := keysRise m ∧ ∀ c ∈ m, c.1 < 61440

/-- The triple the cell `(x, y)` holds. A cell nothing has written holds its launch value, arbitrary and fixed (R45,
R46; log 6). -/
def Framebuffer.read (m : Framebuffer) (x y : Nat) : Rgb :=
  (lookupCell m (cellNumber x y)).getD (Config.launchPixel (cellNumber x y))

/-- `Screen[x, y] <- (r, g, b)` (R77). -/
def Framebuffer.write (m : Framebuffer) (x y : Nat) (v : Rgb) : Framebuffer := insertCell m (cellNumber x y) v

/-! ## The stack (R135 to R138) -/

/-- The address of the stack cell that Sp names: `0x0100 | Sp` (R24). -/
def stackAddr (sp : Byte) : Word := 0x0100#16 ||| sp.setWidth 16

/-- `push(v)` (R135): write at `0x0100 | Sp`, then decrement Sp modulo 256. -/
def push (v : Byte) (s : State) : State :=
  let s1 := s.writeCpu (stackAddr s.sp) v
  s1.setSp (s1.sp - 1)

/-- `push16(v)` (R136): the high byte, then the low byte. -/
def push16 (v : Word) (s : State) : State := push (loByte v) (push (hiByte v) s)

/-- `pop()` (R137): increment Sp modulo 256, then read at `0x0100 | Sp`. No instruction calls it (D25). -/
def pop (s : State) : Byte × State :=
  let s1 := s.setSp (s.sp + 1)
  (s1.readCpu (stackAddr s1.sp), s1)

/-- `pop16()` (R138): the low byte, then the high byte. No instruction calls it. -/
def pop16 (s : State) : Word × State :=
  let (lo, s1) := pop s
  let (hi, s2) := pop s1
  (wordOfBytes lo hi, s2)

/-! ## The driver's schedule (R347) -/

/-- The turn the driver takes next and the turns listed after it: the first of `turns`; when those are used up, `cycle`
once more; the CPU's where neither lists one (log 7). -/
def State.nextTurn (s : State) : Turn × List Turn :=
  match s.turns with
  | turn :: rest => (turn, rest)
  | [] =>
    match s.cycle with
    | turn :: rest => (turn, rest)
    | [] => (.cpu, [])

/-- The schedule with the CPU's move first: unchanged where the CPU moves next already. -/
def State.cpuFirst (s : State) : State :=
  match s.nextTurn.1 with
  | .cpu => s
  | .ppu | .host _ => s.setTurns (.cpu :: s.turns)

/-! ## Fatal faults (R310 to R316)

The core has no trap: nothing saves state or loads Pc from a vector (R323), and there is no return (R324). What the
spec describes instead is a fatal fault. The step that raises it has no next state, and the session keeps its record. -/

/-- `raise Fatal.UnimplementedFeature(kind, pcv, op)` (R311), at an instruction whose opcode byte `op` lies at Pc. -/
def raiseFeature (kind : FeatureKind) (op : Byte) (s : State) : Result :=
  .fault (.unimplementedFeature kind s.pc op)

/-- Set the fault record (R43). What else the state holds after a fault is not observable (R316; log 9). -/
def State.recordFault (s : State) (f : Fault) : State := s.setFaultRecord (some f)

/-- What the session holds after a step that began in `s` answered `o`: the next state; or `s` with the fault recorded,
on which no step will run (R315); or, where the host's turn was refused, `s` without that turn. -/
def settle (s : State) (o : Result) : State :=
  match o with
  | .next t => t
  | .fault f => s.recordFault f
  | .refused _ => s.setTurns s.nextTurn.2

/-! ## Fetch (R121, R122) -/

/-- The instruction whose opcode byte lies at Pc and whose operand bytes follow it, at addresses modulo 65536 (R90). -/
def fetchInstr (s : State) : Instr :=
  decodeBytes (s.readCpu s.pc) (s.readCpu (s.pc + 1)) (s.readCpu (s.pc + 2))

/-- Store three bytes from an address up, the first at the lowest address (addresses modulo 65536). -/
def storeBytes (s : State) (addr : Word) (b : Byte × Byte × Byte) : State :=
  ((s.writeCpu addr b.1).writeCpu (addr + 1) b.2.1).writeCpu (addr + 2) b.2.2

end Sys2Proof.Machine
end

