-- ==== Sys2Proof/Machine/Renderer.lean ====
section
/-! DEFINITION. The background pixel renderer (49_ppu_renderer.md). ScrollX is an input of the renderer in the source
and enters no part of the computation (R291), so no definition here looks at it. -/

namespace Sys2Proof.Machine

/-- Part 1 (R292): the scrolled row, an unbounded sum that nothing wraps. -/
def scrolledRow (y : Nat) (s : State) : Nat := y + s.scrollY.toNat

/-- Part 2 (R293): the tile column. -/
def tileCol (x : Nat) : Nat := x / 8 % 32

/-- Part 2 (R293): the tile row. -/
def tileRow (y' : Nat) : Nat := y' / 8 % 30

/-- Part 3 (R294): the address of the tile index byte, modulo 65536. -/
def nameTableCell (x y' : Nat) (s : State) : Word :=
  BitVec.ofNat 16 (s.nameTableAddr.toNat + 32 * tileRow y' + tileCol x)

/-- Part 4 (R295): the address of the first pattern byte, `tile << 4` on unbounded integers, modulo 65536. -/
def patternAddr (x y' : Nat) (s : State) : Word :=
  BitVec.ofNat 16 ((s.readPpu (nameTableCell x y' s)).toNat * 16 + y' % 8 + s.backgroundTableAddr.toNat)

/-- The bit within a pattern row (R296). -/
def pixelBit (x : Nat) : Nat := 7 - x % 8

/-- Two bits, high and low, as a number from 0 to 3 (R297). -/
def twoBits (hi lo : Bool) : Nat := 2 * hi.toNat + lo.toNat

/-- The pattern-pixel (R297): the byte at `pa` gives the low bit, the byte at `pa + 8` the high one (D17). -/
def patternPixel (x y' : Nat) (s : State) : Nat :=
  let pa := patternAddr x y' s
  twoBits ((s.readPpu (pa + 8)).getLsbD (pixelBit x)) ((s.readPpu pa).getLsbD (pixelBit x))

/-- The address of a palette-index byte: `0x3F00 + patternPixel` (R298). -/
def paletteCell (pp : Nat) : Word := BitVec.ofNat 16 (0x3F00 + pp)

/-- A palette-index byte masked to 6 bits (R298). -/
def paletteIndex (palByte : Byte) : BitVec 6 := (palByte &&& 0x3F#8).setWidth 6

/-- Part 5 (R298, R299): the colour of the pixel in column `x` of scrolled row `y'`. -/
def pixelColour (x y' : Nat) (s : State) : Rgb :=
  Config.palette (paletteIndex (s.readPpu (paletteCell (patternPixel x y' s))))

/-- `RenderPixel(x, y)` (R290): write the colour to row `y'` (R300), or fault when the framebuffer has no such row
(R301, D14; log 19). -/
def renderPixel (x y : Nat) (s : State) : Result :=
  let y' := scrolledRow y s
  if y' > 239 then .fault (.framebufferRow x y')
  else .next (s.setScreen (s.screen.write x y' (pixelColour x y' s)))

end Sys2Proof.Machine
end

