-- ==== Sys2Proof/Machine/Ppu.lean ====
section
/-! DEFINITION. The PPU engine: its counters, the frame phases, VBlank entry, one step, and `reset()`
(48_ppu_timing.md; R342). -/

namespace Sys2Proof.Machine

/-- `Classify(s, c)` (R274 to R276): the frame phase of a position. -/
def classify (scanline cycle : Nat) : Phase :=
  if scanline ≤ 239 then
    if cycle = 0 then .render .idle
    else if cycle ≤ 256 then .render .visible
    else if 321 ≤ cycle ∧ cycle ≤ 336 then .render .preFetch
    else .render .idle
  else if scanline = 240 then .postRender
  else if scanline ≤ 260 then .vBlank
  else if scanline = 261 then
    if cycle = 1 then .preRender .clearVBlank
    else if 280 ≤ cycle ∧ cycle ≤ 304 then .preRender .reloadY
    else .preRender .idle
  else .invalid

/-- The counters of one step (R271 to R273): the dot, with carry into the scanline, with carry into the frame count.
The scanline's test is made only in a step that wraps the dot (D13). -/
def tick (s : State) : State :=
  if h : s.ppuCycles.val + 1 > 340 then
    let s1 := s.setPpuCycles 0
    if s.scanline + 1 > 261 then (s1.setScanline 0).setFrameCount (s.frameCount + 1)
    else s1.setScanline (s.scanline + 1)
  else s.setPpuCycles ⟨s.ppuCycles.val + 1, by omega⟩

/-- VBlank entry (R279): VerticalBlank becomes true, and the latch holds NMI if GenerateNMI is true; otherwise the
latch is not written. -/
def enterVBlank (s : State) : State :=
  let s1 := s.setVerticalBlank true
  if s1.generateNmi then s1.setLatch .nmi else s1

/-- One step of the PPU (R283): one dot. The phase is that of the new position. -/
def ppuStep (s : State) : Result :=
  let t := tick s
  match classify t.scanline t.ppuCycles.val with
  | .render .visible => renderPixel (t.ppuCycles.val - 1) t.scanline t
  | .vBlank => .next (if t.scanline = 241 ∧ t.ppuCycles = 0 then enterVBlank t else t)
  | .render .idle | .render .preFetch | .postRender => .next t
  | .preRender .clearVBlank | .preRender .reloadY | .preRender .idle => .next t
  | .invalid => .fault (.invariantViolation t.scanline t.ppuCycles.val)

/-- The PPU's `reset()` (R342): three stores and no more (D33). -/
def resetPpu (s : State) : State := ((s.setPpuCycles 340).setScanline 240).setVerticalBlank false

end Sys2Proof.Machine
end

