-- ==== Sys2Proof/Machine/AddressSpace.lean ====
section
/-! DEFINITION. The AddressSpace as the source gives it, `load`, `store` and `modify` over keys (R20, R61, R65), and
the host's turns, each a store to one key or the PPU's `reset()` (R352). -/

namespace Sys2Proof.Machine

/-- What a key holds: a value of the key's own width (R20; R31 to R39 with D10; R42). -/
def Key.Val (k : Key) : Type :=
  match k with
  | .cpuRam16 _ | .ppuMemory8 _ => Byte
  | .cpuRegister .pc => Word
  | .cpuRegister .a | .cpuRegister .x | .cpuRegister .y | .cpuRegister .sp | .cpuRegister .p => Byte
  | .cpuInterruptLatch => Latch
  | .ppuRegister .scrollX | .ppuRegister .scrollY => Byte
  | .ppuRegister .nameTableAddr | .ppuRegister .backgroundTableAddr => Word
  | .ppuRegister .generateNmi | .ppuRegister .verticalBlank => Bool
  | .ppuRegister .ppuCycles => Fin 341
  | .ppuRegister .scanline | .ppuRegister .frameCount => Nat
  | .screenPixel _ _ => Rgb

/-- `load(key)`: total, and it changes nothing (R61, R66). -/
def State.load (s : State) (k : Key) : k.Val :=
  match k with
  | .cpuRam16 addr => s.readCpu addr
  | .ppuMemory8 addr => s.readPpu addr
  | .cpuRegister .a => s.a
  | .cpuRegister .x => s.x
  | .cpuRegister .y => s.y
  | .cpuRegister .sp => s.sp
  | .cpuRegister .pc => s.pc
  | .cpuRegister .p => s.p
  | .cpuInterruptLatch => s.latch
  | .ppuRegister .scrollX => s.scrollX
  | .ppuRegister .scrollY => s.scrollY
  | .ppuRegister .nameTableAddr => s.nameTableAddr
  | .ppuRegister .backgroundTableAddr => s.backgroundTableAddr
  | .ppuRegister .generateNmi => s.generateNmi
  | .ppuRegister .verticalBlank => s.verticalBlank
  | .ppuRegister .ppuCycles => s.ppuCycles
  | .ppuRegister .scanline => s.scanline
  | .ppuRegister .frameCount => s.frameCount
  | .screenPixel x y => s.screen.read x.val y.val

/-- `store(key, value)`: total; it replaces the stored value (R61). -/
def State.store (s : State) (k : Key) (v : k.Val) : State :=
  match k, v with
  | .cpuRam16 addr, v => s.writeCpu addr v
  | .ppuMemory8 addr, v => s.setPpuMem (s.ppuMem.write addr v)
  | .cpuRegister .a, v => s.setA v
  | .cpuRegister .x, v => s.setX v
  | .cpuRegister .y, v => s.setY v
  | .cpuRegister .sp, v => s.setSp v
  | .cpuRegister .pc, v => s.setPc v
  | .cpuRegister .p, v => s.setP v
  | .cpuInterruptLatch, v => s.setLatch v
  | .ppuRegister .scrollX, v => s.setScrollX v
  | .ppuRegister .scrollY, v => s.setScrollY v
  | .ppuRegister .nameTableAddr, v => s.setNameTableAddr v
  | .ppuRegister .backgroundTableAddr, v => s.setBackgroundTableAddr v
  | .ppuRegister .generateNmi, v => s.setGenerateNmi v
  | .ppuRegister .verticalBlank, v => s.setVerticalBlank v
  | .ppuRegister .ppuCycles, v => s.setPpuCycles v
  | .ppuRegister .scanline, v => s.setScanline v
  | .ppuRegister .frameCount, v => s.setFrameCount v
  | .screenPixel x y, v => s.setScreen (s.screen.write x.val y.val v)

/-- `modify(key, f)`: a load and then a store (R65). -/
def State.modify (s : State) (k : Key) (f : k.Val → k.Val) : State := s.store k (f (s.load k))

/-- A host turn (R352). A store of a counter outside its range is refused (R37, R38, D24). -/
def hostAct (act : HostAction) (s : State) : Result :=
  match act with
  | .storeCpuRam addr v => .next (s.store (.cpuRam16 addr) v)
  | .storeA v => .next (s.store (.cpuRegister .a) v)
  | .storeX v => .next (s.store (.cpuRegister .x) v)
  | .storeY v => .next (s.store (.cpuRegister .y) v)
  | .storeSp v => .next (s.store (.cpuRegister .sp) v)
  | .storeP v => .next (s.store (.cpuRegister .p) v)
  | .storePc v => .next (s.store (.cpuRegister .pc) v)
  | .storeLatch v => .next (s.store .cpuInterruptLatch v)
  | .storeScrollX v => .next (s.store (.ppuRegister .scrollX) v)
  | .storeScrollY v => .next (s.store (.ppuRegister .scrollY) v)
  | .storeNameTableAddr v => .next (s.store (.ppuRegister .nameTableAddr) v)
  | .storeBackgroundTableAddr v => .next (s.store (.ppuRegister .backgroundTableAddr) v)
  | .storeGenerateNmi v => .next (s.store (.ppuRegister .generateNmi) v)
  | .storeVerticalBlank v => .next (s.store (.ppuRegister .verticalBlank) v)
  | .storePpuCycles v =>
    if h : v < 341 then .next (s.store (.ppuRegister .ppuCycles) ⟨v, h⟩)
    else .refused (.hostStoreOutOfRange .ppuCycles v)
  | .storeScanline v =>
    if v ≤ 261 then .next (s.store (.ppuRegister .scanline) v) else .refused (.hostStoreOutOfRange .scanline v)
  | .storeFrameCount v => .next (s.store (.ppuRegister .frameCount) v)
  | .storePpuMemory addr v => .next (s.store (.ppuMemory8 addr) v)
  | .resetPpu => .next (resetPpu s)

end Sys2Proof.Machine
end

