-- ==== Sys2Proof/Machine/Flags.lean ====
section
/-! DEFINITION. The flags of P: their bits, reading and writing one, and `setZ`, `setN`, `setZN`. -/

namespace Sys2Proof.Machine

/-- `enum(F)` (R26; the order is the spec's decision D1). -/
def flagEnum (f : Flag) : Nat :=
  match f with
  | .n => 0
  | .v => 1
  | .u => 2
  | .b => 3
  | .d => 4
  | .i => 5
  | .z => 6
  | .c => 7

/-- The bit of P that holds a flag: `7 − enum(F)` (R26). -/
def flagBit (f : Flag) : Nat := 7 - flagEnum f

/-- `flag[F]` of a value of P (R27). -/
def getFlag (p : Byte) (f : Flag) : Bool := p.getLsbD (flagBit f)

/-- A value of P after `flag[F] <- b` (R27): the one bit is replaced. -/
def putFlag (p : Byte) (f : Flag) (b : Bool) : Byte :=
  (p &&& ~~~(0x01#8 <<< flagBit f)) ||| ((if b then 0x01#8 else 0x00#8) <<< flagBit f)

/-- `flag[F]`. -/
def State.flag (s : State) (f : Flag) : Bool := getFlag s.p f

/-- `flag[F] <- b`. -/
def State.setFlag (s : State) (f : Flag) (b : Bool) : State := s.setP (putFlag s.p f b)

/-- `setZ(v)` (R132). -/
def State.setZ (s : State) (v : Byte) : State := s.setFlag .z (decide (v = 0x00#8))

/-- `setN(v)` (R133). -/
def State.setN (s : State) (v : Byte) : State := s.setFlag .n (v.getLsbD 7)

/-- `setZN(v)` (R134): `setZ(v)`, then `setN(v)`. -/
def State.setZN (s : State) (v : Byte) : State := (s.setZ v).setN v

end Sys2Proof.Machine
end

