-- ==== Sys2Proof/Machine/Operands.lean ====
section
/-! DEFINITION. Addressing modes: the effective address of each handled mode, from the operand and from memory, and the
Pc advance. -/

namespace Sys2Proof.Machine

/-- `zext_16` (R127): the byte as a 16-bit unsigned value. -/
def zext16 (b : Byte) : Word := b.setWidth 16

/-- `sext_8` (R126), as a 16-bit two's-complement value: a byte of 0x80 or more has 0x100 subtracted. -/
def sext16 (b : Byte) : Word := b.signExtend 16

/-- Immediate (R124): the operand's address. -/
def immediateAddr (pcv : Word) : Word := pcv + 1

/-- ZeroPage (R127): an address in 0x0000 to 0x00FF. -/
def zeroPageAddr (zp : Byte) : Word := zext16 zp

/-- Relative (R126): `pcv + 2 + sext_8(rel)`, modulo 65536. -/
def relativeTarget (pcv : Word) (rel : Byte) : Word := pcv + 2 + sext16 rel

/-- `Resolve(mode, pcv)` as R123 to R128 write it, over memory: none where it raises UnhandledAddressingMode. It
writes nothing. -/
def resolve (mode : Mode) (pcv : Word) (s : State) : Option Word :=
  match mode with
  | .absolute => some (s.readCpuWord (pcv + 1))
  | .immediate => some (immediateAddr pcv)
  | .implied => some 0x0000#16
  | .relative => some (relativeTarget pcv (loByte (s.readCpuWord (pcv + 1))))
  | .zeroPage => some (zeroPageAddr (s.readCpu (pcv + 1)))
  | .accumulator | .zeroPageX | .zeroPageY | .absoluteX | .absoluteY | .indirect | .indexedIndirect
  | .indirectIndexed => none

/-- The mode is one of the five that `Resolve` handles (R128). -/
def modeHandled (mode : Mode) : Bool :=
  match mode with
  | .absolute | .immediate | .implied | .relative | .zeroPage => true
  | .accumulator | .zeroPageX | .zeroPageY | .absoluteX | .absoluteY | .indirect | .indexedIndirect
  | .indirectIndexed => false

/-- The control-transfer mnemonics of R130, whose handlers own Pc. -/
def ownsPc (mn : Mnemonic) : Bool := mn == .jmp || mn == .jsr || mn == .rts || mn == .rti

/-- `Delta(mode, mnemonic)` (R129, R130): the bytes Pc advances by before the handler runs. -/
def delta (mode : Mode) (mn : Mnemonic) : Nat :=
  if ownsPc mn then 0
  else match mode with
    | .implied | .accumulator => 1
    | .immediate | .zeroPage | .zeroPageX | .zeroPageY | .relative | .indexedIndirect | .indirectIndexed => 2
    | .absolute | .absoluteX | .absoluteY => 3
    | .indirect => 0

/-- Part 3 of the step (R121, R131): Pc advances by the delta, modulo 65536. -/
def State.advance (s : State) (mode : Mode) (mn : Mnemonic) : State :=
  s.setPc (s.pc + BitVec.ofNat 16 (delta mode mn))

end Sys2Proof.Machine
end

