-- ==== Sys2Proof/Machine/Branches.lean ====
section
/-! DEFINITION. The conditional branches BCC, BCS, BEQ, BNE (41_branches.md). -/

namespace Sys2Proof.Machine

/-- A branch's handler: jump to the resolved address if the flag has the wanted value, else leave Pc, which has been
advanced. -/
def branchIf (f : Flag) (want : Bool) (ea : Word) (s : State) : State :=
  if s.flag f = want then s.setPc ea else s

/-- A whole branch: the target is `pcv + 2 + sext_8(rel)` whatever the handler does (R126). -/
def branch (mn : Mnemonic) (f : Flag) (want : Bool) (rel : Byte) (s : State) : Result :=
  .next (branchIf f want (relativeTarget s.pc rel) (s.advance .relative mn))

/-- `BCC` (R160): taken if Carry is clear. -/
def execBcc (rel : Byte) (s : State) : Result := branch .bcc .c false rel s

/-- `BCS` (R161): taken if Carry is set. -/
def execBcs (rel : Byte) (s : State) : Result := branch .bcs .c true rel s

/-- `BEQ` (R162): taken if Zero is set. -/
def execBeq (rel : Byte) (s : State) : Result := branch .beq .z true rel s

/-- `BNE` (R163): taken if Zero is clear. -/
def execBne (rel : Byte) (s : State) : Result := branch .bne .z false rel s

end Sys2Proof.Machine
end

