-- ==== Sys2Proof/Machine/FlagOps.lean ====
section
/-! DEFINITION. The flag operations CLC and SEC (42_flag_ops.md). -/

namespace Sys2Proof.Machine

/-- `CLC` (R170): Carry becomes false. -/
def execClc (s : State) : Result := .next ((s.advance .implied .clc).setFlag .c false)

/-- `SEC` (R171): Carry becomes true. -/
def execSec (s : State) : Result := .next ((s.advance .implied .sec).setFlag .c true)

end Sys2Proof.Machine
end

