-- ==== Sys2Proof/Machine/Jumps.lean ====
section
/-! DEFINITION. The jumps JMP and JSR in mode Absolute (43_jumps.md). -/

namespace Sys2Proof.Machine

/-- The handler of `JSR` (R181): push `Pc − 1` (modulo 65536), then set Pc. The delta of `JSR` is 0, so the Pc it reads
is `pcv` (R130, R141). -/
def callTo (ea : Word) (s : State) : State := (push16 (s.pc - 1) s).setPc ea

/-- `JMP` Absolute (R180). -/
def execJmpAbs (addr : Word) (s : State) : Result := .next ((s.advance .absolute .jmp).setPc addr)

/-- `JSR` (R181). -/
def execJsr (addr : Word) (s : State) : Result := .next (callTo addr (s.advance .absolute .jsr))

end Sys2Proof.Machine
end

