-- ==== Sys2Proof/Machine/Loads.lean ====
section
/-! DEFINITION. The loads LDA and LDX in modes Immediate, ZeroPage and Absolute (44_loads.md). In mode Immediate the
byte loaded is the instruction's own second byte, which the term carries (log 10). -/

namespace Sys2Proof.Machine

/-- Load A with a byte and set Z and N by it (R190). -/
def loadA (v : Byte) (s : State) : State := (s.setA v).setZN v

/-- Load X with a byte and set Z and N by it (R191). -/
def loadX (v : Byte) (s : State) : State := (s.setX v).setZN v

/-- Load A from CPU memory at `ea` (R190). -/
def loadAFrom (ea : Word) (s : State) : State := loadA (s.readCpu ea) s

/-- Load X from CPU memory at `ea` (R191). -/
def loadXFrom (ea : Word) (s : State) : State := loadX (s.readCpu ea) s

/-- `LDA` Immediate (R190). -/
def execLdaImm (imm : Byte) (s : State) : Result := .next (loadA imm (s.advance .immediate .lda))

/-- `LDA` ZeroPage (R190). -/
def execLdaZp (zp : Byte) (s : State) : Result := .next (loadAFrom (zeroPageAddr zp) (s.advance .zeroPage .lda))

/-- `LDA` Absolute (R190). -/
def execLdaAbs (addr : Word) (s : State) : Result := .next (loadAFrom addr (s.advance .absolute .lda))

/-- `LDX` Immediate (R191). -/
def execLdxImm (imm : Byte) (s : State) : Result := .next (loadX imm (s.advance .immediate .ldx))

/-- `LDX` ZeroPage (R191). -/
def execLdxZp (zp : Byte) (s : State) : Result := .next (loadXFrom (zeroPageAddr zp) (s.advance .zeroPage .ldx))

/-- `LDX` Absolute (R191). -/
def execLdxAbs (addr : Word) (s : State) : Result := .next (loadXFrom addr (s.advance .absolute .ldx))

end Sys2Proof.Machine
end

