-- ==== Sys2Proof/Machine/NopBit.lean ====
section
/-! DEFINITION. NOP and the BIT stub (46_nop_bit.md). -/

namespace Sys2Proof.Machine

/-- `NOP` (R210): only Pc advances. -/
def execNop (s : State) : Result := .next (s.advance .implied .nop)

/-- `BIT` ZeroPage (R211): a stub that always faults. -/
def execBitZp (_zp : Byte) (s : State) : Result := raiseFeature .bitStub 0x24#8 s

/-- `BIT` Absolute (R211): a stub that always faults. -/
def execBitAbs (_addr : Word) (s : State) : Result := raiseFeature .bitStub 0x2C#8 s

end Sys2Proof.Machine
end

