-- ==== Sys2Proof/Machine/Stores.lean ====
section
/-! DEFINITION. The stores STA, STX, STY in modes ZeroPage and Absolute (45_stores.md). -/

namespace Sys2Proof.Machine

/-- Store A at `ea` (R200). -/
def storeA (ea : Word) (s : State) : State := s.writeCpu ea s.a

/-- Store X at `ea` (R201). -/
def storeX (ea : Word) (s : State) : State := s.writeCpu ea s.x

/-- Store Y at `ea` (R202). -/
def storeY (ea : Word) (s : State) : State := s.writeCpu ea s.y

/-- `STA` ZeroPage (R200). -/
def execStaZp (zp : Byte) (s : State) : Result := .next (storeA (zeroPageAddr zp) (s.advance .zeroPage .sta))

/-- `STA` Absolute (R200). -/
def execStaAbs (addr : Word) (s : State) : Result := .next (storeA addr (s.advance .absolute .sta))

/-- `STX` ZeroPage (R201). -/
def execStxZp (zp : Byte) (s : State) : Result := .next (storeX (zeroPageAddr zp) (s.advance .zeroPage .stx))

/-- `STX` Absolute (R201). -/
def execStxAbs (addr : Word) (s : State) : Result := .next (storeX addr (s.advance .absolute .stx))

/-- `STY` ZeroPage (R202). -/
def execStyZp (zp : Byte) (s : State) : Result := .next (storeY (zeroPageAddr zp) (s.advance .zeroPage .sty))

/-- `STY` Absolute (R202). -/
def execStyAbs (addr : Word) (s : State) : Result := .next (storeY addr (s.advance .absolute .sty))

end Sys2Proof.Machine
end

