-- ==== Sys2Proof/Machine/UndefinedOpcodes.lean ====
section
/-! DEFINITION. The opcode bytes with no Instruction (47_unimplemented.md R262). -/

namespace Sys2Proof.Machine

/-- An opcode byte with no Instruction: UndefinedOpcode, right after the fetch (R262). -/
def execUndefined (op : Byte) (s : State) : Result := raiseFeature .undefinedOpcode op s

end Sys2Proof.Machine
end

