-- ==== Sys2Proof/Machine/UnhandledModes.lean ====
section
/-! DEFINITION. The 63 opcode bytes in one of the eight unhandled modes, whatever their mnemonic: each ends the step in
UnhandledAddressingMode (47_unimplemented.md R261, R128). -/

namespace Sys2Proof.Machine

/-- `ADC` ZeroPageX (R261). -/
def execAdcZpX (_zp : Byte) (s : State) : Result := raiseFeature .unhandledAddressingMode 0x75#8 s

/-- `ADC` AbsoluteX (R261). -/
def execAdcAbsX (_addr : Word) (s : State) : Result := raiseFeature .unhandledAddressingMode 0x7D#8 s

/-- `ADC` AbsoluteY (R261). -/
def execAdcAbsY (_addr : Word) (s : State) : Result := raiseFeature .unhandledAddressingMode 0x79#8 s

/-- `ADC` IndexedIndirect (R261). -/
def execAdcIzX (_zp : Byte) (s : State) : Result := raiseFeature .unhandledAddressingMode 0x61#8 s

/-- `ADC` IndirectIndexed (R261). -/
def execAdcIzY (_zp : Byte) (s : State) : Result := raiseFeature .unhandledAddressingMode 0x71#8 s

/-- `AND` ZeroPageX (R261). -/
def execAndZpX (_zp : Byte) (s : State) : Result := raiseFeature .unhandledAddressingMode 0x35#8 s

/-- `AND` AbsoluteX (R261). -/
def execAndAbsX (_addr : Word) (s : State) : Result := raiseFeature .unhandledAddressingMode 0x3D#8 s

/-- `AND` AbsoluteY (R261). -/
def execAndAbsY (_addr : Word) (s : State) : Result := raiseFeature .unhandledAddressingMode 0x39#8 s

/-- `AND` IndexedIndirect (R261). -/
def execAndIzX (_zp : Byte) (s : State) : Result := raiseFeature .unhandledAddressingMode 0x21#8 s

/-- `AND` IndirectIndexed (R261). -/
def execAndIzY (_zp : Byte) (s : State) : Result := raiseFeature .unhandledAddressingMode 0x31#8 s

/-- `ASL` Accumulator (R261). -/
def execAslAcc (s : State) : Result := raiseFeature .unhandledAddressingMode 0x0A#8 s

/-- `ASL` ZeroPageX (R261). -/
def execAslZpX (_zp : Byte) (s : State) : Result := raiseFeature .unhandledAddressingMode 0x16#8 s

/-- `ASL` AbsoluteX (R261). -/
def execAslAbsX (_addr : Word) (s : State) : Result := raiseFeature .unhandledAddressingMode 0x1E#8 s

/-- `CMP` ZeroPageX (R261). -/
def execCmpZpX (_zp : Byte) (s : State) : Result := raiseFeature .unhandledAddressingMode 0xD5#8 s

/-- `CMP` AbsoluteX (R261). -/
def execCmpAbsX (_addr : Word) (s : State) : Result := raiseFeature .unhandledAddressingMode 0xDD#8 s

/-- `CMP` AbsoluteY (R261). -/
def execCmpAbsY (_addr : Word) (s : State) : Result := raiseFeature .unhandledAddressingMode 0xD9#8 s

/-- `CMP` IndexedIndirect (R261). -/
def execCmpIzX (_zp : Byte) (s : State) : Result := raiseFeature .unhandledAddressingMode 0xC1#8 s

/-- `CMP` IndirectIndexed (R261). -/
def execCmpIzY (_zp : Byte) (s : State) : Result := raiseFeature .unhandledAddressingMode 0xD1#8 s

/-- `DEC` ZeroPageX (R261). -/
def execDecZpX (_zp : Byte) (s : State) : Result := raiseFeature .unhandledAddressingMode 0xD6#8 s

/-- `DEC` AbsoluteX (R261). -/
def execDecAbsX (_addr : Word) (s : State) : Result := raiseFeature .unhandledAddressingMode 0xDE#8 s

/-- `EOR` ZeroPageX (R261). -/
def execEorZpX (_zp : Byte) (s : State) : Result := raiseFeature .unhandledAddressingMode 0x55#8 s

/-- `EOR` AbsoluteX (R261). -/
def execEorAbsX (_addr : Word) (s : State) : Result := raiseFeature .unhandledAddressingMode 0x5D#8 s

/-- `EOR` AbsoluteY (R261). -/
def execEorAbsY (_addr : Word) (s : State) : Result := raiseFeature .unhandledAddressingMode 0x59#8 s

/-- `EOR` IndexedIndirect (R261). -/
def execEorIzX (_zp : Byte) (s : State) : Result := raiseFeature .unhandledAddressingMode 0x41#8 s

/-- `EOR` IndirectIndexed (R261). -/
def execEorIzY (_zp : Byte) (s : State) : Result := raiseFeature .unhandledAddressingMode 0x51#8 s

/-- `INC` ZeroPageX (R261). -/
def execIncZpX (_zp : Byte) (s : State) : Result := raiseFeature .unhandledAddressingMode 0xF6#8 s

/-- `INC` AbsoluteX (R261). -/
def execIncAbsX (_addr : Word) (s : State) : Result := raiseFeature .unhandledAddressingMode 0xFE#8 s

/-- `JMP` Indirect (R261). -/
def execJmpInd (_addr : Word) (s : State) : Result := raiseFeature .unhandledAddressingMode 0x6C#8 s

/-- `LDA` ZeroPageX (R261). -/
def execLdaZpX (_zp : Byte) (s : State) : Result := raiseFeature .unhandledAddressingMode 0xB5#8 s

/-- `LDA` AbsoluteX (R261). -/
def execLdaAbsX (_addr : Word) (s : State) : Result := raiseFeature .unhandledAddressingMode 0xBD#8 s

/-- `LDA` AbsoluteY (R261). -/
def execLdaAbsY (_addr : Word) (s : State) : Result := raiseFeature .unhandledAddressingMode 0xB9#8 s

/-- `LDA` IndexedIndirect (R261). -/
def execLdaIzX (_zp : Byte) (s : State) : Result := raiseFeature .unhandledAddressingMode 0xA1#8 s

/-- `LDA` IndirectIndexed (R261). -/
def execLdaIzY (_zp : Byte) (s : State) : Result := raiseFeature .unhandledAddressingMode 0xB1#8 s

/-- `LDX` ZeroPageY (R261). -/
def execLdxZpY (_zp : Byte) (s : State) : Result := raiseFeature .unhandledAddressingMode 0xB6#8 s

/-- `LDX` AbsoluteY (R261). -/
def execLdxAbsY (_addr : Word) (s : State) : Result := raiseFeature .unhandledAddressingMode 0xBE#8 s

/-- `LDY` ZeroPageX (R261). -/
def execLdyZpX (_zp : Byte) (s : State) : Result := raiseFeature .unhandledAddressingMode 0xB4#8 s

/-- `LDY` AbsoluteX (R261). -/
def execLdyAbsX (_addr : Word) (s : State) : Result := raiseFeature .unhandledAddressingMode 0xBC#8 s

/-- `LSR` Accumulator (R261). -/
def execLsrAcc (s : State) : Result := raiseFeature .unhandledAddressingMode 0x4A#8 s

/-- `LSR` ZeroPageX (R261). -/
def execLsrZpX (_zp : Byte) (s : State) : Result := raiseFeature .unhandledAddressingMode 0x56#8 s

/-- `LSR` AbsoluteX (R261). -/
def execLsrAbsX (_addr : Word) (s : State) : Result := raiseFeature .unhandledAddressingMode 0x5E#8 s

/-- `ORA` ZeroPageX (R261). -/
def execOraZpX (_zp : Byte) (s : State) : Result := raiseFeature .unhandledAddressingMode 0x15#8 s

/-- `ORA` AbsoluteX (R261). -/
def execOraAbsX (_addr : Word) (s : State) : Result := raiseFeature .unhandledAddressingMode 0x1D#8 s

/-- `ORA` AbsoluteY (R261). -/
def execOraAbsY (_addr : Word) (s : State) : Result := raiseFeature .unhandledAddressingMode 0x19#8 s

/-- `ORA` IndexedIndirect (R261). -/
def execOraIzX (_zp : Byte) (s : State) : Result := raiseFeature .unhandledAddressingMode 0x01#8 s

/-- `ORA` IndirectIndexed (R261). -/
def execOraIzY (_zp : Byte) (s : State) : Result := raiseFeature .unhandledAddressingMode 0x11#8 s

/-- `ROL` Accumulator (R261). -/
def execRolAcc (s : State) : Result := raiseFeature .unhandledAddressingMode 0x2A#8 s

/-- `ROL` ZeroPageX (R261). -/
def execRolZpX (_zp : Byte) (s : State) : Result := raiseFeature .unhandledAddressingMode 0x36#8 s

/-- `ROL` AbsoluteX (R261). -/
def execRolAbsX (_addr : Word) (s : State) : Result := raiseFeature .unhandledAddressingMode 0x3E#8 s

/-- `ROR` Accumulator (R261). -/
def execRorAcc (s : State) : Result := raiseFeature .unhandledAddressingMode 0x6A#8 s

/-- `ROR` ZeroPageX (R261). -/
def execRorZpX (_zp : Byte) (s : State) : Result := raiseFeature .unhandledAddressingMode 0x76#8 s

/-- `ROR` AbsoluteX (R261). -/
def execRorAbsX (_addr : Word) (s : State) : Result := raiseFeature .unhandledAddressingMode 0x7E#8 s

/-- `SBC` ZeroPageX (R261). -/
def execSbcZpX (_zp : Byte) (s : State) : Result := raiseFeature .unhandledAddressingMode 0xF5#8 s

/-- `SBC` AbsoluteX (R261). -/
def execSbcAbsX (_addr : Word) (s : State) : Result := raiseFeature .unhandledAddressingMode 0xFD#8 s

/-- `SBC` AbsoluteY (R261). -/
def execSbcAbsY (_addr : Word) (s : State) : Result := raiseFeature .unhandledAddressingMode 0xF9#8 s

/-- `SBC` IndexedIndirect (R261). -/
def execSbcIzX (_zp : Byte) (s : State) : Result := raiseFeature .unhandledAddressingMode 0xE1#8 s

/-- `SBC` IndirectIndexed (R261). -/
def execSbcIzY (_zp : Byte) (s : State) : Result := raiseFeature .unhandledAddressingMode 0xF1#8 s

/-- `STA` ZeroPageX (R261). -/
def execStaZpX (_zp : Byte) (s : State) : Result := raiseFeature .unhandledAddressingMode 0x95#8 s

/-- `STA` AbsoluteX (R261). -/
def execStaAbsX (_addr : Word) (s : State) : Result := raiseFeature .unhandledAddressingMode 0x9D#8 s

/-- `STA` AbsoluteY (R261). -/
def execStaAbsY (_addr : Word) (s : State) : Result := raiseFeature .unhandledAddressingMode 0x99#8 s

/-- `STA` IndexedIndirect (R261). -/
def execStaIzX (_zp : Byte) (s : State) : Result := raiseFeature .unhandledAddressingMode 0x81#8 s

/-- `STA` IndirectIndexed (R261). -/
def execStaIzY (_zp : Byte) (s : State) : Result := raiseFeature .unhandledAddressingMode 0x91#8 s

/-- `STX` ZeroPageY (R261). -/
def execStxZpY (_zp : Byte) (s : State) : Result := raiseFeature .unhandledAddressingMode 0x96#8 s

/-- `STY` ZeroPageX (R261). -/
def execStyZpX (_zp : Byte) (s : State) : Result := raiseFeature .unhandledAddressingMode 0x94#8 s

end Sys2Proof.Machine
end

