-- ==== Sys2Proof/Machine/Unimplemented.lean ====
section
/-! DEFINITION. The 41 mnemonics with no handler, in the five handled modes: each ends the step in
UnimplementedMnemonic (47_unimplemented.md R220 to R260, R139). -/

namespace Sys2Proof.Machine

/-- `ADC` Immediate (R220). -/
def execAdcImm (_imm : Byte) (s : State) : Result := raiseFeature .unimplementedMnemonic 0x69#8 s

/-- `ADC` ZeroPage (R220). -/
def execAdcZp (_zp : Byte) (s : State) : Result := raiseFeature .unimplementedMnemonic 0x65#8 s

/-- `ADC` Absolute (R220). -/
def execAdcAbs (_addr : Word) (s : State) : Result := raiseFeature .unimplementedMnemonic 0x6D#8 s

/-- `AND` Immediate (R221). -/
def execAndImm (_imm : Byte) (s : State) : Result := raiseFeature .unimplementedMnemonic 0x29#8 s

/-- `AND` ZeroPage (R221). -/
def execAndZp (_zp : Byte) (s : State) : Result := raiseFeature .unimplementedMnemonic 0x25#8 s

/-- `AND` Absolute (R221). -/
def execAndAbs (_addr : Word) (s : State) : Result := raiseFeature .unimplementedMnemonic 0x2D#8 s

/-- `ASL` ZeroPage (R222). -/
def execAslZp (_zp : Byte) (s : State) : Result := raiseFeature .unimplementedMnemonic 0x06#8 s

/-- `ASL` Absolute (R222). -/
def execAslAbs (_addr : Word) (s : State) : Result := raiseFeature .unimplementedMnemonic 0x0E#8 s

/-- `BMI` Relative (R223). -/
def execBmi (_rel : Byte) (s : State) : Result := raiseFeature .unimplementedMnemonic 0x30#8 s

/-- `BPL` Relative (R224). -/
def execBpl (_rel : Byte) (s : State) : Result := raiseFeature .unimplementedMnemonic 0x10#8 s

/-- `BRK` Implied (R225). -/
def execBrk (s : State) : Result := raiseFeature .unimplementedMnemonic 0x00#8 s

/-- `BVC` Relative (R226). -/
def execBvc (_rel : Byte) (s : State) : Result := raiseFeature .unimplementedMnemonic 0x50#8 s

/-- `BVS` Relative (R227). -/
def execBvs (_rel : Byte) (s : State) : Result := raiseFeature .unimplementedMnemonic 0x70#8 s

/-- `CLD` Implied (R228). -/
def execCld (s : State) : Result := raiseFeature .unimplementedMnemonic 0xD8#8 s

/-- `CLI` Implied (R229). -/
def execCli (s : State) : Result := raiseFeature .unimplementedMnemonic 0x58#8 s

/-- `CLV` Implied (R230). -/
def execClv (s : State) : Result := raiseFeature .unimplementedMnemonic 0xB8#8 s

/-- `CMP` Immediate (R231). -/
def execCmpImm (_imm : Byte) (s : State) : Result := raiseFeature .unimplementedMnemonic 0xC9#8 s

/-- `CMP` ZeroPage (R231). -/
def execCmpZp (_zp : Byte) (s : State) : Result := raiseFeature .unimplementedMnemonic 0xC5#8 s

/-- `CMP` Absolute (R231). -/
def execCmpAbs (_addr : Word) (s : State) : Result := raiseFeature .unimplementedMnemonic 0xCD#8 s

/-- `CPX` Immediate (R232). -/
def execCpxImm (_imm : Byte) (s : State) : Result := raiseFeature .unimplementedMnemonic 0xE0#8 s

/-- `CPX` ZeroPage (R232). -/
def execCpxZp (_zp : Byte) (s : State) : Result := raiseFeature .unimplementedMnemonic 0xE4#8 s

/-- `CPX` Absolute (R232). -/
def execCpxAbs (_addr : Word) (s : State) : Result := raiseFeature .unimplementedMnemonic 0xEC#8 s

/-- `CPY` Immediate (R233). -/
def execCpyImm (_imm : Byte) (s : State) : Result := raiseFeature .unimplementedMnemonic 0xC0#8 s

/-- `CPY` ZeroPage (R233). -/
def execCpyZp (_zp : Byte) (s : State) : Result := raiseFeature .unimplementedMnemonic 0xC4#8 s

/-- `CPY` Absolute (R233). -/
def execCpyAbs (_addr : Word) (s : State) : Result := raiseFeature .unimplementedMnemonic 0xCC#8 s

/-- `DEC` ZeroPage (R234). -/
def execDecZp (_zp : Byte) (s : State) : Result := raiseFeature .unimplementedMnemonic 0xC6#8 s

/-- `DEC` Absolute (R234). -/
def execDecAbs (_addr : Word) (s : State) : Result := raiseFeature .unimplementedMnemonic 0xCE#8 s

/-- `DEX` Implied (R235). -/
def execDex (s : State) : Result := raiseFeature .unimplementedMnemonic 0xCA#8 s

/-- `DEY` Implied (R236). -/
def execDey (s : State) : Result := raiseFeature .unimplementedMnemonic 0x88#8 s

/-- `EOR` Immediate (R237). -/
def execEorImm (_imm : Byte) (s : State) : Result := raiseFeature .unimplementedMnemonic 0x49#8 s

/-- `EOR` ZeroPage (R237). -/
def execEorZp (_zp : Byte) (s : State) : Result := raiseFeature .unimplementedMnemonic 0x45#8 s

/-- `EOR` Absolute (R237). -/
def execEorAbs (_addr : Word) (s : State) : Result := raiseFeature .unimplementedMnemonic 0x4D#8 s

/-- `INC` ZeroPage (R238). -/
def execIncZp (_zp : Byte) (s : State) : Result := raiseFeature .unimplementedMnemonic 0xE6#8 s

/-- `INC` Absolute (R238). -/
def execIncAbs (_addr : Word) (s : State) : Result := raiseFeature .unimplementedMnemonic 0xEE#8 s

/-- `INX` Implied (R239). -/
def execInx (s : State) : Result := raiseFeature .unimplementedMnemonic 0xE8#8 s

/-- `INY` Implied (R240). -/
def execIny (s : State) : Result := raiseFeature .unimplementedMnemonic 0xC8#8 s

/-- `LDY` Immediate (R241). -/
def execLdyImm (_imm : Byte) (s : State) : Result := raiseFeature .unimplementedMnemonic 0xA0#8 s

/-- `LDY` ZeroPage (R241). -/
def execLdyZp (_zp : Byte) (s : State) : Result := raiseFeature .unimplementedMnemonic 0xA4#8 s

/-- `LDY` Absolute (R241). -/
def execLdyAbs (_addr : Word) (s : State) : Result := raiseFeature .unimplementedMnemonic 0xAC#8 s

/-- `LSR` ZeroPage (R242). -/
def execLsrZp (_zp : Byte) (s : State) : Result := raiseFeature .unimplementedMnemonic 0x46#8 s

/-- `LSR` Absolute (R242). -/
def execLsrAbs (_addr : Word) (s : State) : Result := raiseFeature .unimplementedMnemonic 0x4E#8 s

/-- `ORA` Immediate (R243). -/
def execOraImm (_imm : Byte) (s : State) : Result := raiseFeature .unimplementedMnemonic 0x09#8 s

/-- `ORA` ZeroPage (R243). -/
def execOraZp (_zp : Byte) (s : State) : Result := raiseFeature .unimplementedMnemonic 0x05#8 s

/-- `ORA` Absolute (R243). -/
def execOraAbs (_addr : Word) (s : State) : Result := raiseFeature .unimplementedMnemonic 0x0D#8 s

/-- `PHA` Implied (R244). -/
def execPha (s : State) : Result := raiseFeature .unimplementedMnemonic 0x48#8 s

/-- `PHP` Implied (R245). -/
def execPhp (s : State) : Result := raiseFeature .unimplementedMnemonic 0x08#8 s

/-- `PLA` Implied (R246). -/
def execPla (s : State) : Result := raiseFeature .unimplementedMnemonic 0x68#8 s

/-- `PLP` Implied (R247). -/
def execPlp (s : State) : Result := raiseFeature .unimplementedMnemonic 0x28#8 s

/-- `ROL` ZeroPage (R248). -/
def execRolZp (_zp : Byte) (s : State) : Result := raiseFeature .unimplementedMnemonic 0x26#8 s

/-- `ROL` Absolute (R248). -/
def execRolAbs (_addr : Word) (s : State) : Result := raiseFeature .unimplementedMnemonic 0x2E#8 s

/-- `ROR` ZeroPage (R249). -/
def execRorZp (_zp : Byte) (s : State) : Result := raiseFeature .unimplementedMnemonic 0x66#8 s

/-- `ROR` Absolute (R249). -/
def execRorAbs (_addr : Word) (s : State) : Result := raiseFeature .unimplementedMnemonic 0x6E#8 s

/-- `RTI` Implied (R250). -/
def execRti (s : State) : Result := raiseFeature .unimplementedMnemonic 0x40#8 s

/-- `RTS` Implied (R251). -/
def execRts (s : State) : Result := raiseFeature .unimplementedMnemonic 0x60#8 s

/-- `SBC` Immediate (R252). -/
def execSbcImm (_imm : Byte) (s : State) : Result := raiseFeature .unimplementedMnemonic 0xE9#8 s

/-- `SBC` ZeroPage (R252). -/
def execSbcZp (_zp : Byte) (s : State) : Result := raiseFeature .unimplementedMnemonic 0xE5#8 s

/-- `SBC` Absolute (R252). -/
def execSbcAbs (_addr : Word) (s : State) : Result := raiseFeature .unimplementedMnemonic 0xED#8 s

/-- `SED` Implied (R253). -/
def execSed (s : State) : Result := raiseFeature .unimplementedMnemonic 0xF8#8 s

/-- `SEI` Implied (R254). -/
def execSei (s : State) : Result := raiseFeature .unimplementedMnemonic 0x78#8 s

/-- `TAX` Implied (R255). -/
def execTax (s : State) : Result := raiseFeature .unimplementedMnemonic 0xAA#8 s

/-- `TAY` Implied (R256). -/
def execTay (s : State) : Result := raiseFeature .unimplementedMnemonic 0xA8#8 s

/-- `TSX` Implied (R257). -/
def execTsx (s : State) : Result := raiseFeature .unimplementedMnemonic 0xBA#8 s

/-- `TXA` Implied (R258). -/
def execTxa (s : State) : Result := raiseFeature .unimplementedMnemonic 0x8A#8 s

/-- `TXS` Implied (R259). -/
def execTxs (s : State) : Result := raiseFeature .unimplementedMnemonic 0x9A#8 s

/-- `TYA` Implied (R260). -/
def execTya (s : State) : Result := raiseFeature .unimplementedMnemonic 0x98#8 s

end Sys2Proof.Machine
end

