-- ==== Sys2Proof/Machine/Cpu.lean ====
section
/-! DEFINITION. The CPU engine's step: fetch, decode, and the meaning of the instruction, which resolves its operand,
advances Pc and runs the handler (R120, R121). It does not look at the interrupt latch (R142). -/

namespace Sys2Proof.Machine

/-- One step of the CPU: one whole instruction. -/
def cpuStep (s : State) : Result := exec (fetchInstr s) s

end Sys2Proof.Machine
end

