-- ==== Sys2Proof/Machine/Schedule.lean ====
section
/-! DEFINITION. Turns and schedules: one whole turn of an agent, the same over the machine's state alone, and runs under
any schedule, finite or endless (R347). The schedule is a parameter of a run (R47). -/

namespace Sys2Proof.Machine

/-- A turn taken whole: an engine's step or a host action (R347). After a fatal fault no turn is taken, and the answer
is that fault (R315; log 8). -/
def act (turn : Turn) (s : State) : Result :=
  match s.faultRecord with
  | some f => .fault f
  | none =>
    match turn with
    | .cpu => cpuStep s
    | .ppu => ppuStep s
    | .host action => hostAct action s

/-- An outcome with its next state changed. -/
def mapNext {σ τ : Type} (f : σ → τ) (o : Host.Outcome σ Fault Refusal) : Host.Outcome τ Fault Refusal :=
  match o with
  | .next s => .next (f s)
  | .fault e => .fault e
  | .refused r => .refused r

/-- A machine's state beside a schedule. -/
def CoreState.withSchedule (c : CoreState) (turns cycle : List Turn) : State :=
  { toCoreState := c, turns := turns, cycle := cycle }

/-- A turn as a function of the machine's state (R7): no schedule is there to be read or changed (R47). -/
def takeTurn (turn : Turn) (c : CoreState) : Host.Outcome CoreState Fault Refusal :=
  mapNext State.toCoreState (act turn (c.withSchedule [] []))

/-- The first `k` turns of a run under a schedule, which gives a turn for every number and so may go on for ever (R347,
R47). A run ends at the first fault or refusal. -/
def runSchedule (schedule : Nat → Turn) : Nat → CoreState → Host.Outcome CoreState Fault Refusal
  | 0, c => .next c
  | k + 1, c =>
    match runSchedule schedule k c with
    | .next d => takeTurn (schedule k) d
    | .fault f => .fault f
    | .refused r => .refused r

end Sys2Proof.Machine
end

