-- ==== Sys2Proof/Machine/Step.lean ====
section
/-! DEFINITION. One step of the whole core: the next turn of the driver's schedule, and the placing of an instruction
where the next step fetches it. -/

namespace Sys2Proof.Machine

/-- One step: the turn that the schedule names next, taken whole (R347; log 7). After a fatal fault the step answers
that fault (R315). -/
def step (s : State) : Host.Outcome State Fault Refusal := act s.nextTurn.1 (s.setTurns s.nextTurn.2)

/-- `s` with the instruction whose bits are `w` (0 from bit `nbits` up) stored in the three bytes from Pc on, the CPU's
move first, and no fault on record, so that the next step runs it (log 11). -/
def State.withFetchWord (s : State) (nbits w : Nat) : State :=
  ((storeBytes s s.pc (tableBytes nbits w)).setFaultRecord none).cpuFirst

end Sys2Proof.Machine
end

