-- ==== Sys2Proof/Machine/Algorithm.lean ====
section
/-! DEFINITION. The CPU step as rule R121 writes it, mnemonic by mnemonic over memory, and the accesses of each step
(R78). No step uses these: statements compare the machine with them. -/

namespace Sys2Proof.Machine

/-- `Exec(mnemonic, ea)` of R139: the handler of a mnemonic, entered with Pc advanced. -/
def handler (mn : Mnemonic) (pcv : Word) (op : Byte) (ea : Word) (s : State) : Result :=
  match mn with
  | .bcc => .next (branchIf .c false ea s)
  | .bcs => .next (branchIf .c true ea s)
  | .beq => .next (branchIf .z true ea s)
  | .bne => .next (branchIf .z false ea s)
  | .clc => .next (s.setFlag .c false)
  | .sec => .next (s.setFlag .c true)
  | .jmp => .next (s.setPc ea)
  | .jsr => .next (callTo ea s)
  | .lda => .next (loadAFrom ea s)
  | .ldx => .next (loadXFrom ea s)
  | .sta => .next (storeA ea s)
  | .stx => .next (storeX ea s)
  | .sty => .next (storeY ea s)
  | .nop => .next s
  | .bit => .fault (.unimplementedFeature .bitStub pcv op)
  | .adc | .and | .asl | .bmi | .bpl | .brk | .bvc | .bvs | .cld | .cli | .clv | .cmp | .cpx | .cpy | .dec | .dex
  | .dey | .eor | .inc | .inx | .iny | .ldy | .lsr | .ora | .pha | .php | .pla | .plp | .rol | .ror | .rti | .rts
  | .sbc | .sed | .sei | .tax | .tay | .tsx | .txa | .txs | .tya =>
    .fault (.unimplementedFeature .unimplementedMnemonic pcv op)

/-- `CpuStep` of R121, line by line. -/
def cpuStepAlgorithm (s : State) : Result :=
  let pcv := s.pc
  let op := s.readCpu pcv
  match opcodeMap op with
  | none => .fault (.unimplementedFeature .undefinedOpcode pcv op)
  | some (mn, mode) =>
    match resolve mode pcv s with
    | none => .fault (.unimplementedFeature .unhandledAddressingMode pcv op)
    | some ea => handler mn pcv op ea (s.setPc (pcv + BitVec.ofNat 16 (delta mode mn)))

/-- The operand bytes that resolving a handled mode reads, in order (R78, R126 with D29). -/
def modeReads (mode : Mode) (pcv : Word) : List Access :=
  match mode with
  | .absolute | .relative => [.cpuRead (pcv + 1), .cpuRead (pcv + 2)]
  | .zeroPage => [.cpuRead (pcv + 1)]
  | .immediate | .implied | .accumulator | .zeroPageX | .zeroPageY | .absoluteX | .absoluteY | .indirect
  | .indexedIndirect | .indirectIndexed => []

/-- The accesses of a handler, in order (R78). -/
def handlerAccesses (mn : Mnemonic) (ea : Word) (s : State) : List Access :=
  if mn = .lda ∨ mn = .ldx then [.cpuRead ea]
  else if mn = .sta then [.cpuWrite ea s.a]
  else if mn = .stx then [.cpuWrite ea s.x]
  else if mn = .sty then [.cpuWrite ea s.y]
  else if mn = .jsr then
    [.cpuWrite (stackAddr s.sp) (hiByte (s.pc - 1)), .cpuWrite (stackAddr (s.sp - 1)) (loByte (s.pc - 1))]
  else []

/-- The accesses of the CPU step taken from `s`, in order (R78); an unhandled mode reads the opcode byte only
(R128). -/
def cpuAccesses (s : State) : List Access :=
  .cpuRead s.pc ::
    match opcodeMap (s.readCpu s.pc) with
    | none => []
    | some (mn, mode) =>
      match resolve mode s.pc s with
      | none => []
      | some ea => modeReads mode s.pc ++ handlerAccesses mn ea s

/-- The accesses of the PPU step taken from `s`, in order (R78): none unless the new position is Visible; a row above
239 is not written (R301). -/
def ppuAccesses (s : State) : List Access :=
  let t := tick s
  if classify t.scanline t.ppuCycles.val = .render .visible then
    let x := t.ppuCycles.val - 1
    let y' := scrolledRow t.scanline t
    [.ppuRead (nameTableCell x y' t), .ppuRead (patternAddr x y' t), .ppuRead (patternAddr x y' t + 8),
      .ppuRead (paletteCell (patternPixel x y' t))] ++
      if y' > 239 then [] else [.screenWrite x y' (pixelColour x y' t)]
  else []

/-- CPU memory after the writes of a list of accesses, taken in order. -/
def replayCpuWrites (as : List Access) (m : Memory) : Memory :=
  as.foldl (fun m acc => match acc with
    | .cpuWrite addr v => m.write addr v
    | .cpuRead _ | .ppuRead _ | .screenWrite _ _ _ => m) m

end Sys2Proof.Machine
end

