-- ==== Sys2Proof/Safety.lean ====
section
/-! DEFINITION. What counts as a safe state and as the end of a run, runs of one engine, and the words statements are
made of: which parts of two states are the same, and what class an outcome falls in. -/

namespace Sys2Proof.Machine

/-- The invariant of the machine: both memories and the framebuffer are in their canonical form, and Scanline is in
range (R38). PpuCycles is in range by its type (R37). -/
abbrev State.Inv (s : State) : Prop :=
  s.cpuMem.wf ∧ s.ppuMem.wf ∧ s.screen.wf ∧ s.scanline ≤ 261

/-- A fatal fault has stopped both engines (R43, R315). -/
abbrev State.Stopped (s : State) : Prop := s.faultRecord ≠ none

/-- The CPU is finished at the start of a step (R351): `haltPc = some a` and `pc = a`. It says nothing about what the
hardware then does. -/
abbrev State.CpuFinished (s : State) (haltPc : Option Word) : Prop := haltPc = some s.pc

/-- The run is over, and ended well (R351): no fault, the CPU finished, and no PPU step left that the host means to
take. DESIGN CHOICE (log 29): the PPU steps the host means to take are the PPU turns its schedule lists. CPU and host
turns that are still listed do not matter. -/
abbrev State.EndedWell (s : State) (haltPc : Option Word) : Prop :=
  s.faultRecord = none ∧ s.CpuFinished haltPc ∧ .ppu ∉ s.turns ∧ .ppu ∉ s.cycle

/-- `k` steps of one engine (`cpuStep`, `ppuStep`, or `step` itself), ending at the first fault or refusal. -/
def runEngine (engine : State → Result) : Nat → State → Result
  | 0, s => .next s
  | k + 1, s =>
    match engine s with
    | .next t => runEngine engine k t
    | .fault f => .fault f
    | .refused r => .refused r

/-- The session after one more step: what the driver holds, with a fault on record once there has been one (R43). -/
def sessionStep (s : State) : State := settle s (step s)

/-- The position of the PPU as one number (R284). -/
def position (s : State) : Nat := 341 * s.scanline + s.ppuCycles.val

/-! ## Parts of two states that are the same -/

/-- The CPU's registers and memory are the same in both states. -/
structure SameCpu (s t : State) : Prop where
  a : t.a = s.a
  x : t.x = s.x
  y : t.y = s.y
  sp : t.sp = s.sp
  pc : t.pc = s.pc
  p : t.p = s.p
  cpuMem : t.cpuMem = s.cpuMem

/-- The nine PPU registers, PPU memory and the framebuffer are the same in both states. -/
structure SamePpu (s t : State) : Prop where
  scrollX : t.scrollX = s.scrollX
  scrollY : t.scrollY = s.scrollY
  nameTableAddr : t.nameTableAddr = s.nameTableAddr
  backgroundTableAddr : t.backgroundTableAddr = s.backgroundTableAddr
  generateNmi : t.generateNmi = s.generateNmi
  verticalBlank : t.verticalBlank = s.verticalBlank
  ppuCycles : t.ppuCycles = s.ppuCycles
  scanline : t.scanline = s.scanline
  frameCount : t.frameCount = s.frameCount
  ppuMem : t.ppuMem = s.ppuMem
  screen : t.screen = s.screen

/-- The fault record and the driver's schedule are the same in both states. -/
structure SameDriver (s t : State) : Prop where
  faultRecord : t.faultRecord = s.faultRecord
  turns : t.turns = s.turns
  cycle : t.cycle = s.cycle

/-- All but the CPU's registers and memory is the same: the PPU, the latch, the fault record, the schedule. -/
structure SameOutsideCpu (s t : State) : Prop where
  ppu : SamePpu s t
  latch : t.latch = s.latch
  driver : SameDriver s t

/-- Every flag but the listed ones is the same in both states. -/
def SameFlagsBut (fs : List Flag) (s t : State) : Prop := ∀ f, f ∉ fs → t.flag f = s.flag f

/-! ## Classes of outcomes -/

/-- The kind of unimplemented feature an outcome reports, if it is such a fault (R311). -/
def faultKind (o : Result) : Option FeatureKind :=
  match o with
  | .fault (.unimplementedFeature kind _ _) => some kind
  | .fault (.invariantViolation _ _) | .fault (.framebufferRow _ _) | .next _ | .refused _ => none

/-- The outcome is a next state. -/
def completes (o : Result) : Bool :=
  match o with
  | .next _ => true
  | .fault _ | .refused _ => false

/-- The 21 opcode bytes of the admitted subset (R95). -/
def admittedOpcodes : List Byte :=
  [0x90#8, 0xB0#8, 0xF0#8, 0xD0#8, 0x18#8, 0x38#8, 0x4C#8, 0x20#8, 0xA9#8, 0xA5#8, 0xAD#8] ++
  [0xA2#8, 0xA6#8, 0xAE#8, 0x85#8, 0x8D#8, 0x86#8, 0x8E#8, 0x84#8, 0x8C#8, 0xEA#8]

/-- The fifteen mnemonics with a handler, `BIT` among them (R139). -/
def implementedMnemonics : List Mnemonic :=
  [.bcc, .bcs, .beq, .bne, .clc, .sec, .jmp, .jsr, .lda, .ldx, .sta, .stx, .sty, .nop, .bit]

/-- The key a host turn stores to; the PPU's `reset()` is not one store (R342, R352). -/
def HostAction.target (act : HostAction) : Option Key :=
  match act with
  | .storeCpuRam addr _ => some (.cpuRam16 addr)
  | .storeA _ => some (.cpuRegister .a)
  | .storeX _ => some (.cpuRegister .x)
  | .storeY _ => some (.cpuRegister .y)
  | .storeSp _ => some (.cpuRegister .sp)
  | .storeP _ => some (.cpuRegister .p)
  | .storePc _ => some (.cpuRegister .pc)
  | .storeLatch _ => some .cpuInterruptLatch
  | .storeScrollX _ => some (.ppuRegister .scrollX)
  | .storeScrollY _ => some (.ppuRegister .scrollY)
  | .storeNameTableAddr _ => some (.ppuRegister .nameTableAddr)
  | .storeBackgroundTableAddr _ => some (.ppuRegister .backgroundTableAddr)
  | .storeGenerateNmi _ => some (.ppuRegister .generateNmi)
  | .storeVerticalBlank _ => some (.ppuRegister .verticalBlank)
  | .storePpuCycles _ => some (.ppuRegister .ppuCycles)
  | .storeScanline _ => some (.ppuRegister .scanline)
  | .storeFrameCount _ => some (.ppuRegister .frameCount)
  | .storePpuMemory addr _ => some (.ppuMemory8 addr)
  | .resetPpu => none

/-- What a host turn leaves: the key it stores to holds the value the action carries (R352, R61). -/
def HostAction.Stored (act : HostAction) (t : State) : Prop :=
  match act with
  | .storeCpuRam addr v => t.load (.cpuRam16 addr) = v
  | .storeA v => t.load (.cpuRegister .a) = v
  | .storeX v => t.load (.cpuRegister .x) = v
  | .storeY v => t.load (.cpuRegister .y) = v
  | .storeSp v => t.load (.cpuRegister .sp) = v
  | .storeP v => t.load (.cpuRegister .p) = v
  | .storePc v => t.load (.cpuRegister .pc) = v
  | .storeLatch v => t.load .cpuInterruptLatch = v
  | .storeScrollX v => t.load (.ppuRegister .scrollX) = v
  | .storeScrollY v => t.load (.ppuRegister .scrollY) = v
  | .storeNameTableAddr v => t.load (.ppuRegister .nameTableAddr) = v
  | .storeBackgroundTableAddr v => t.load (.ppuRegister .backgroundTableAddr) = v
  | .storeGenerateNmi v => t.load (.ppuRegister .generateNmi) = v
  | .storeVerticalBlank v => t.load (.ppuRegister .verticalBlank) = v
  | .storePpuCycles v => (t.load (.ppuRegister .ppuCycles)).val = v
  | .storeScanline v => t.load (.ppuRegister .scanline) = v
  | .storeFrameCount v => t.load (.ppuRegister .frameCount) = v
  | .storePpuMemory addr v => t.load (.ppuMemory8 addr) = v
  | .resetPpu => t.ppuCycles = 340 ∧ t.scanline = 240 ∧ t.verticalBlank = false

end Sys2Proof.Machine
end

