-- ==== Sys2Proof/Certificates/Slice0/Obligations.lean ====
section
/-! DEFINITION. The statements for the provers, one `def Obligations.<Name> : Prop` each. A docstring names the rules
of spec/ that a statement comes from; where a clause rests on a decision D<n> of 92_eei_decisions.md (the spec's own
choice) or on a choice of this model (log <n>), it says so. -/

open Sys2Proof Sys2Proof.Machine

/-- Decode and encode agree for every instruction at every operand. Rests on the formats of R90 and R91 and on the
opcode map of R94, which is the spec's decision D2 (lengths of the delta-0 formats: D28). -/
def Obligations.DecodeOfEncode : Prop :=
  ∀ (i : Instr) (rest : List Byte), i.wellFormed = true → decode (encode i ++ rest) = .ok (i, rest)

/-- The other direction: no two byte strings decode to one instruction, and a list is rejected exactly for want of
bytes, by the length of its first byte's format. Rests on the opcode map of R94 (the spec's decision D2) and the
lengths of R91 (that of Indirect: D28); that a byte with no Instruction has length 1 is log 1. -/
def Obligations.EncodeOfDecode : Prop :=
  (∀ (bs rest : List Byte) (i : Instr), decode bs = .ok (i, rest) → i.wellFormed = true ∧ encode i ++ rest = bs) ∧
  (∀ bs : List Byte, (∃ i rest, decode bs = .ok (i, rest)) ↔
    ∃ op tail, bs = op :: tail ∧ formatLength op ≤ bs.length)

/-- Bytes written out from 30_encoding.md R94, R95 and the listings of R99. The opcode bytes are the spec's decision
D2. -/
def Obligations.SpecWordsDecode : Prop :=
  decode [0xD0#8, 0x05#8] = .ok (.bne 0x05#8, []) ∧ decode [0x18#8] = .ok (.clc, []) ∧
  decode [0x38#8] = .ok (.sec, []) ∧ decode [0x4C#8, 0x0E#8, 0xC0#8] = .ok (.jmpAbs 0xC00E#16, []) ∧
  decode [0x20#8, 0x10#8, 0xC0#8] = .ok (.jsr 0xC010#16, []) ∧ decode [0xA9#8, 0x10#8] = .ok (.ldaImm 0x10#8, []) ∧
  decode [0xA5#8, 0x10#8] = .ok (.ldaZp 0x10#8, []) ∧
  decode [0xAD#8, 0x34#8, 0x12#8] = .ok (.ldaAbs 0x1234#16, []) ∧ decode [0xA2#8, 0x03#8] = .ok (.ldxImm 0x03#8, []) ∧
  decode [0x8D#8, 0x00#8, 0x02#8] = .ok (.staAbs 0x0200#16, []) ∧ decode [0x86#8, 0x10#8] = .ok (.stxZp 0x10#8, []) ∧
  decode [0x8C#8, 0xFF#8, 0x01#8] = .ok (.styAbs 0x01FF#16, []) ∧ decode [0xEA#8] = .ok (.nop, []) ∧
  decode [0x24#8, 0x00#8] = .ok (.bitZp 0x00#8, []) ∧ decode [0x69#8, 0x01#8] = .ok (.adcImm 0x01#8, []) ∧
  decode [0x6C#8, 0x34#8, 0x12#8] = .ok (.jmpInd 0x1234#16, []) ∧ decode [0x0A#8] = .ok (.aslAcc, []) ∧
  decode [0xB5#8, 0x10#8] = .ok (.ldaZpX 0x10#8, []) ∧ decode [0x02#8] = .ok (.undefined 0x02#8, [])

/-- The partition of R96 and R263, for every state and every operand. The bytes are those of decisions D2 and D3. -/
def Obligations.OpcodeClassesCounted : Prop :=
  ∀ (s : State) (b1 b2 : Byte),
    ((List.range 256).filter fun n => completes (exec (decodeBytes (BitVec.ofNat 8 n) b1 b2) s)).length = 21 ∧
    ∀ kind, ((List.range 256).filter fun n =>
        faultKind (exec (decodeBytes (BitVec.ofNat 8 n) b1 b2) s) = some kind).length =
      match kind with
      | .bitStub => 2
      | .unimplementedMnemonic => 65
      | .unhandledAddressingMode => 63
      | .undefinedOpcode => 105

/-- R95: the admitted subset, whatever the state and the operand. The byte values are decision D2. -/
def Obligations.CompletesExactlyOnTheAdmittedSubset : Prop :=
  ∀ (i : Instr) (s : State), i.wellFormed = true → ((∃ t, exec i s = .next t) ↔ i.opcode ∈ admittedOpcodes)

/-- R121, R122: a CPU step is the meaning of the instruction fetched at Pc, which moves past its own bytes. That an
empty schedule means the CPU is the model's choice (log 7); addresses wrap by decision D6. -/
def Obligations.StepRunsTheDecodedInstruction : Prop :=
  ∀ (s : State) (i : Instr) (rest : List Byte), s.faultRecord = none →
    decode [s.readCpu s.pc, s.readCpu (s.pc + 1), s.readCpu (s.pc + 2)] = .ok (i, rest) →
    (s.turns = [] → s.cycle = [] → step s = exec i s) ∧
    (∀ us, s.turns = .cpu :: us → step s = exec i (s.setTurns us)) ∧
    (∀ us, s.turns = [] → s.cycle = .cpu :: us → step s = exec i (s.setTurns us))

/-- R347: the driver takes whole turns one at a time. The schedule's fields are the model's own (log 7). -/
def Obligations.StepTakesTheOtherTurns : Prop :=
  ∀ (s : State) (us : List Turn), s.faultRecord = none →
    (s.turns = .ppu :: us ∨ s.turns = [] ∧ s.cycle = .ppu :: us → step s = ppuStep (s.setTurns us)) ∧
    (∀ action, s.turns = .host action :: us ∨ s.turns = [] ∧ s.cycle = .host action :: us →
      step s = hostAct action (s.setTurns us))

/-- R121 line by line: the machine, which decodes to one constructor a row, equals the source's algorithm over
(mnemonic, mode). The opcode map is decision D2, the wrap of addresses D6, the order of faults D21. -/
def Obligations.CpuStepIsTheAlgorithm : Prop :=
  ∀ s : State, cpuStep s = cpuStepAlgorithm s

/-- R78: the list of accesses accounts for every change of memory. Opcode bytes by D2, wrap by D6, the value JSR
pushes by D7. -/
def Obligations.CpuStepAccessesReplay : Prop :=
  ∀ s t : State, cpuStep s = .next t →
    t.cpuMem = replayCpuWrites (cpuAccesses s) s.cpuMem ∧ (cpuAccesses s).head? = some (.cpuRead s.pc)

/-- R78: the list of reads is complete, so no other byte of memory influences the step. In particular an unhandled
mode reads the opcode byte only (R128). Opcode bytes by D2. -/
def Obligations.CpuStepReadsOnlyItsAccessList : Prop :=
  ∀ (s : State) (m : Memory), (∀ addr, .cpuRead addr ∈ cpuAccesses s → m.read addr = s.readCpu addr) →
    cpuAccesses (s.setCpuMem m) = cpuAccesses s ∧
    (∀ f, cpuStep s = .fault f → cpuStep (s.setCpuMem m) = .fault f) ∧
    (∀ t, cpuStep s = .next t →
      cpuStep (s.setCpuMem m) = .next (t.setCpuMem (replayCpuWrites (cpuAccesses s) m)))

/-- R72 [derived], for each of the seven storing forms: the instruction itself runs as fetched. Which register is
stored is decision D5 (log 22), the addresses pcv + 2 and pcv + 3 wrap by D6 (log 16), the value JSR pushes is D7 (log
17). -/
def Obligations.StoreIsSeenByTheNextFetch : Prop :=
  ∀ (s : State) (addr : Word) (zp : Byte),
    (addr = s.pc + 3 →
      (∃ t, exec (.staAbs addr) s = .next t ∧ (fetchInstr t).opcode = s.a) ∧
      (∃ t, exec (.stxAbs addr) s = .next t ∧ (fetchInstr t).opcode = s.x) ∧
      (∃ t, exec (.styAbs addr) s = .next t ∧ (fetchInstr t).opcode = s.y)) ∧
    (zeroPageAddr zp = s.pc + 2 →
      (∃ t, exec (.staZp zp) s = .next t ∧ (fetchInstr t).opcode = s.a) ∧
      (∃ t, exec (.stxZp zp) s = .next t ∧ (fetchInstr t).opcode = s.x) ∧
      (∃ t, exec (.styZp zp) s = .next t ∧ (fetchInstr t).opcode = s.y)) ∧
    (∃ t, exec (.jsr addr) s = .next t ∧
      (addr = stackAddr s.sp → (fetchInstr t).opcode = hiByte (s.pc - 1)) ∧
      (addr = stackAddr (s.sp - 1) → (fetchInstr t).opcode = loByte (s.pc - 1)))

/-- R27, whole: the reading, the formula of the writing, and the source's property. -/
def Obligations.FlagAccess : Prop :=
  ∀ (s : State) (f : Flag) (b : Bool),
    s.flag f = s.p.getLsbD (7 - flagEnum f) ∧
    (s.setFlag f b).p =
      (s.p &&& ~~~(0x01#8 <<< (7 - flagEnum f))) ||| ((if b then 0x01#8 else 0x00#8) <<< (7 - flagEnum f)) ∧
    (s.setFlag f b).flag f = b ∧ ∀ g, g ≠ f → (s.setFlag f b).flag g = s.flag g

/-- R132, R133, R134. -/
def Obligations.SetZNWritesTwoFlags : Prop :=
  ∀ (s : State) (v : Byte),
    ((s.setZ v).flag .z = true ↔ v = 0x00#8) ∧ ((s.setN v).flag .n = true ↔ v.getLsbD 7 = true) ∧
    ((s.setZN v).flag .z = true ↔ v = 0x00#8) ∧ ((s.setZN v).flag .n = true ↔ v.getLsbD 7 = true) ∧
    SameFlagsBut [.z] s (s.setZ v) ∧ SameFlagsBut [.n] s (s.setN v) ∧ SameFlagsBut [.z, .n] s (s.setZN v) ∧
    s.setZN v = { s with p := (s.setZN v).p }

/-- R135, with its corner case: Sp = 0x00 writes 0x0100 and leaves Sp = 0xFF; nothing faults. -/
def Obligations.PushStoresThenDecrements : Prop :=
  ∀ (s : State) (v : Byte),
    (∀ addr, (push v s).readCpu addr = if addr = 0x0100#16 ||| s.sp.setWidth 16 then v else s.readCpu addr) ∧
    (push v s).sp.toNat = (s.sp.toNat + 255) % 256 ∧
    push v s = { s with sp := (push v s).sp, cpuMem := (push v s).cpuMem } ∧
    0x0100 ≤ (0x0100#16 ||| s.sp.setWidth 16).toNat ∧ (0x0100#16 ||| s.sp.setWidth 16).toNat ≤ 0x01FF

/-- R136, its corner case included: s = 0x00 puts the high byte at 0x0100 and the low byte at 0x01FF. -/
def Obligations.Push16StoresHighThenLow : Prop :=
  ∀ (s : State) (v : Word),
    (push16 v s).readCpu (BitVec.ofNat 16 (0x0100 + s.sp.toNat)) = hiByte v ∧
    (push16 v s).readCpu (BitVec.ofNat 16 (0x0100 + (s.sp.toNat + 255) % 256)) = loByte v ∧
    (∀ addr, addr ≠ BitVec.ofNat 16 (0x0100 + s.sp.toNat) →
      addr ≠ BitVec.ofNat 16 (0x0100 + (s.sp.toNat + 255) % 256) → (push16 v s).readCpu addr = s.readCpu addr) ∧
    (push16 v s).sp.toNat = (s.sp.toNat + 254) % 256 ∧
    push16 v s = { s with sp := (push16 v s).sp, cpuMem := (push16 v s).cpuMem }

/-- R137, R138: the algorithm of pop is the spec's decision D25; the property is the source's. -/
def Obligations.Pop16UndoesPush16 : Prop :=
  ∀ (s : State) (v : Word),
    pop16 (push16 v s) = (v, (push16 v s).setSp s.sp) ∧
    (pop s).2 = s.setSp (s.sp + 1) ∧ (pop s).1 = s.readCpu (0x0100#16 ||| (s.sp + 1).setWidth 16)

/-- R62; that the second address wraps at 0xFFFF is decision D6 (R63). -/
def Obligations.SixteenBitLoadIsLittleEndian : Prop :=
  ∀ (s : State) (a : Word),
    (s.readCpuWord a).toNat =
      (s.readCpu a).toNat + 256 * (s.readCpu (BitVec.ofNat 16 ((a.toNat + 1) % 65536))).toNat

/-- R129 and R130. -/
def Obligations.DeltaTable : Prop :=
  ∀ mn : Mnemonic,
    ((mn = .jmp ∨ mn = .jsr ∨ mn = .rts ∨ mn = .rti) → ∀ mode, delta mode mn = 0) ∧ delta .indirect mn = 0 ∧
    (¬ (mn = .jmp ∨ mn = .jsr ∨ mn = .rts ∨ mn = .rti) →
      delta .relative mn = 2 ∧ delta .accumulator mn = 1 ∧ delta .implied mn = 1 ∧ delta .immediate mn = 2 ∧
      delta .indexedIndirect mn = 2 ∧ delta .indirectIndexed mn = 2 ∧ delta .zeroPage mn = 2 ∧
      delta .zeroPageX mn = 2 ∧ delta .zeroPageY mn = 2 ∧ delta .absolute mn = 3 ∧ delta .absoluteX mn = 3 ∧
      delta .absoluteY mn = 3)

/-- R61, for every key of R20: load and store are total functions. That no other key changes is R60 and R66 with no
alias between addresses (decisions D8, D9); the width of a key's value is R31 to R42 with decision D10. Scanline is
held as a number with an invariant (log 14), so a value above 261 loads back too; the framebuffer's launch values are
log 6. -/
def Obligations.StoreThenLoad : Prop :=
  (∀ (s : State) (k : Key) (v : k.Val),
    (s.store k v).load k = v ∧ ∀ k', k' ≠ k → (s.store k v).load k' = s.load k') ∧
  (∀ (s : State) (addr a : Word) (v : Byte),
    (s.writeCpu addr v).readCpu a = if a = addr then v else s.readCpu a)

/-- R160, R161. Which flag each tests is decision D4, the wrap of the target D6. -/
def Obligations.BranchesOnCarry : Prop :=
  ∀ (s : State) (rel : Byte),
    exec (.bcc rel) s = .next { s with pc := if s.flag .c = false then
      (BitVec.ofInt 16 ((s.pc.toNat : Int) + 2 + (if rel.toNat < 0x80 then (rel.toNat : Int) else rel.toNat - 0x100)))
      else s.pc + 2 } ∧
    exec (.bcs rel) s = .next { s with pc := if s.flag .c = true then
      (BitVec.ofInt 16 ((s.pc.toNat : Int) + 2 + (if rel.toNat < 0x80 then (rel.toNat : Int) else rel.toNat - 0x100)))
      else s.pc + 2 }

/-- R162, R163, with the branch to itself (byte 0xFE). Which flag each tests is decision D4, the wrap of the target
D6. -/
def Obligations.BranchesOnZero : Prop :=
  (∀ (s : State) (rel : Byte),
    exec (.beq rel) s = .next { s with pc := if s.flag .z = true then
      (BitVec.ofInt 16 ((s.pc.toNat : Int) + 2 + (if rel.toNat < 0x80 then (rel.toNat : Int) else rel.toNat - 0x100)))
      else s.pc + 2 } ∧
    exec (.bne rel) s = .next { s with pc := if s.flag .z = false then
      (BitVec.ofInt 16 ((s.pc.toNat : Int) + 2 + (if rel.toNat < 0x80 then (rel.toNat : Int) else rel.toNat - 0x100)))
      else s.pc + 2 }) ∧
  (∀ s : State, s.flag .z = false → exec (.bne 0xFE#8) s = .next s)

/-- R170. The wrap of Pc is decision D6; the encoding clause rests on decision D2. -/
def Obligations.ClcClearsCarry : Prop :=
  encode .clc = [0x18#8] ∧
  ∀ s : State, ∃ p', exec .clc s = .next { s with p := p', pc := s.pc + 1 } ∧
    getFlag p' .c = false ∧ ∀ f, f ≠ .c → getFlag p' f = s.flag f

/-- R171. The wrap of Pc is decision D6; the encoding clause rests on decision D2. -/
def Obligations.SecSetsCarry : Prop :=
  encode .sec = [0x38#8] ∧
  ∀ s : State, ∃ p', exec .sec s = .next { s with p := p', pc := s.pc + 1 } ∧
    getFlag p' .c = true ∧ ∀ f, f ≠ .c → getFlag p' f = s.flag f

/-- R180. The encoding clause (low byte first) rests on decision D2. -/
def Obligations.JmpSetsPc : Prop :=
  (∀ (s : State) (addr : Word), exec (.jmpAbs addr) s = .next { s with pc := addr }) ∧
  (∀ s : State, exec (.jmpAbs s.pc) s = .next s) ∧
  (∀ addr : Word, encode (.jmpAbs addr) = [0x4C#8, loByte addr, hiByte addr])

/-- R181 in full. That the value pushed is pcv − 1, not the 6502's pcv + 2, is the spec's decision D7. -/
def Obligations.JsrPushesPcMinusOne : Prop :=
  ∀ (s : State) (addr : Word), ∃ t, exec (.jsr addr) s = .next t ∧ t.pc = addr ∧ t.sp = s.sp - 2 ∧
    (∀ a, t.readCpu a =
      if a = stackAddr s.sp then hiByte (s.pc - 1)
      else if a = stackAddr (s.sp - 1) then loByte (s.pc - 1)
      else s.readCpu a) ∧
    t = { s with pc := addr, sp := s.sp - 2, cpuMem := t.cpuMem }

/-- R190. Which register is loaded is decision D5; the wrap of Pc is D6. -/
def Obligations.LdaLoadsAndSetsZN : Prop :=
  ∀ s : State,
    (∀ imm, ∃ p', exec (.ldaImm imm) s = .next { s with a := imm, p := p', pc := s.pc + 2 } ∧
      getFlag p' .z = decide (imm = 0x00#8) ∧ getFlag p' .n = imm.getLsbD 7 ∧
      ∀ f, f ∉ [Flag.z, Flag.n] → getFlag p' f = s.flag f) ∧
    (∀ zp, ∃ p', exec (.ldaZp zp) s = .next { s with a := s.readCpu (zp.setWidth 16), p := p', pc := s.pc + 2 } ∧
      getFlag p' .z = decide (s.readCpu (zp.setWidth 16) = 0x00#8) ∧
      getFlag p' .n = (s.readCpu (zp.setWidth 16)).getLsbD 7 ∧
      ∀ f, f ∉ [Flag.z, Flag.n] → getFlag p' f = s.flag f) ∧
    (∀ addr, ∃ p', exec (.ldaAbs addr) s = .next { s with a := s.readCpu addr, p := p', pc := s.pc + 3 } ∧
      getFlag p' .z = decide (s.readCpu addr = 0x00#8) ∧ getFlag p' .n = (s.readCpu addr).getLsbD 7 ∧
      ∀ f, f ∉ [Flag.z, Flag.n] → getFlag p' f = s.flag f)

/-- R191. Which register is loaded is decision D5; the wrap of Pc is D6. -/
def Obligations.LdxLoadsAndSetsZN : Prop :=
  ∀ s : State,
    (∀ imm, ∃ p', exec (.ldxImm imm) s = .next { s with x := imm, p := p', pc := s.pc + 2 } ∧
      getFlag p' .z = decide (imm = 0x00#8) ∧ getFlag p' .n = imm.getLsbD 7 ∧
      ∀ f, f ∉ [Flag.z, Flag.n] → getFlag p' f = s.flag f) ∧
    (∀ zp, ∃ p', exec (.ldxZp zp) s = .next { s with x := s.readCpu (zp.setWidth 16), p := p', pc := s.pc + 2 } ∧
      getFlag p' .z = decide (s.readCpu (zp.setWidth 16) = 0x00#8) ∧
      getFlag p' .n = (s.readCpu (zp.setWidth 16)).getLsbD 7 ∧
      ∀ f, f ∉ [Flag.z, Flag.n] → getFlag p' f = s.flag f) ∧
    (∀ addr, ∃ p', exec (.ldxAbs addr) s = .next { s with x := s.readCpu addr, p := p', pc := s.pc + 3 } ∧
      getFlag p' .z = decide (s.readCpu addr = 0x00#8) ∧ getFlag p' .n = (s.readCpu addr).getLsbD 7 ∧
      ∀ f, f ∉ [Flag.z, Flag.n] → getFlag p' f = s.flag f)

/-- R200. Which register is stored is decision D5; the wrap of Pc is D6. -/
def Obligations.StaStoresOneByte : Prop :=
  ∀ s : State,
    (∀ zp, ∃ t, exec (.staZp zp) s = .next t ∧ t = { s with pc := s.pc + 2, cpuMem := t.cpuMem } ∧
      ∀ a, t.readCpu a = if a = zeroPageAddr zp then s.a else s.readCpu a) ∧
    (∀ addr, ∃ t, exec (.staAbs addr) s = .next t ∧ t = { s with pc := s.pc + 3, cpuMem := t.cpuMem } ∧
      ∀ a, t.readCpu a = if a = addr then s.a else s.readCpu a)

/-- R201. Which register is stored is decision D5; the wrap of Pc is D6. -/
def Obligations.StxStoresOneByte : Prop :=
  ∀ s : State,
    (∀ zp, ∃ t, exec (.stxZp zp) s = .next t ∧ t = { s with pc := s.pc + 2, cpuMem := t.cpuMem } ∧
      ∀ a, t.readCpu a = if a = zeroPageAddr zp then s.x else s.readCpu a) ∧
    (∀ addr, ∃ t, exec (.stxAbs addr) s = .next t ∧ t = { s with pc := s.pc + 3, cpuMem := t.cpuMem } ∧
      ∀ a, t.readCpu a = if a = addr then s.x else s.readCpu a)

/-- R202. Which register is stored is decision D5; the wrap of Pc is D6. -/
def Obligations.StyStoresOneByte : Prop :=
  ∀ s : State,
    (∀ zp, ∃ t, exec (.styZp zp) s = .next t ∧ t = { s with pc := s.pc + 2, cpuMem := t.cpuMem } ∧
      ∀ a, t.readCpu a = if a = zeroPageAddr zp then s.y else s.readCpu a) ∧
    (∀ addr, ∃ t, exec (.styAbs addr) s = .next t ∧ t = { s with pc := s.pc + 3, cpuMem := t.cpuMem } ∧
      ∀ a, t.readCpu a = if a = addr then s.y else s.readCpu a)

/-- R210; the wrap at 0xFFFF is decision D6. -/
def Obligations.NopOnlyAdvancesPc : Prop :=
  ∀ s : State, exec .nop s = .next { s with pc := BitVec.ofNat 16 ((s.pc.toNat + 1) % 65536) }

/-- R211: the stub fails loudly, whatever the state and the operand. The opcode bytes are decision D2. -/
def Obligations.BitAlwaysFaults : Prop :=
  ∀ s : State,
    (∀ zp, exec (.bitZp zp) s = .fault (.unimplementedFeature .bitStub s.pc 0x24#8)) ∧
    (∀ addr, exec (.bitAbs addr) s = .fault (.unimplementedFeature .bitStub s.pc 0x2C#8))

/-- R139 and R220 to R260: 65 constructors, one rule each mnemonic. The opcode bytes are decision D2. -/
def Obligations.UnimplementedMnemonicsFault : Prop :=
  ∀ (i : Instr) (mn : Mnemonic) (mode : Mode) (s : State), i.mnemonic? = some mn → i.mode? = some mode →
    modeHandled mode = true → mn ∉ implementedMnemonics →
    exec i s = .fault (.unimplementedFeature .unimplementedMnemonic s.pc i.opcode)

/-- R261: the mode is met before the mnemonic (order of faults: decision D21). The opcode bytes are decision D2. -/
def Obligations.UnhandledModesFault : Prop :=
  ∀ (i : Instr) (mode : Mode) (s : State), i.mode? = some mode →
    (mode = .accumulator ∨ mode = .zeroPageX ∨ mode = .zeroPageY ∨ mode = .absoluteX ∨ mode = .absoluteY ∨
      mode = .indirect ∨ mode = .indexedIndirect ∨ mode = .indirectIndexed) →
    exec i s = .fault (.unimplementedFeature .unhandledAddressingMode s.pc i.opcode)

/-- R262, R97; both the map and the separate kind are the spec's decisions D2 and D3. -/
def Obligations.UndefinedOpcodesFault : Prop :=
  (∀ (op : Byte) (s : State), exec (.undefined op) s = .fault (.unimplementedFeature .undefinedOpcode s.pc op)) ∧
  undefinedOpcodes.length = 105 ∧
  (∀ b0 b1 b2 : Byte, decodeBytes b0 b1 b2 = .undefined b0 ↔ b0 ∈ undefinedOpcodes)

/-- R21 to R24 and the table of R28, over all instructions: nothing else writes these. The register of a load is
decision D5. -/
def Obligations.WhoWritesTheCpuRegisters : Prop :=
  ∀ (i : Instr) (s t : State), exec i s = .next t →
    (t.a ≠ s.a → i.mnemonic? = some .lda) ∧ (t.x ≠ s.x → i.mnemonic? = some .ldx) ∧ t.y = s.y ∧
    (t.sp ≠ s.sp → i.mnemonic? = some .jsr) ∧
    (t.flag .c ≠ s.flag .c → i.mnemonic? = some .clc ∨ i.mnemonic? = some .sec) ∧
    (∀ f, f = .z ∨ f = .n → t.flag f ≠ s.flag f → i.mnemonic? = some .lda ∨ i.mnemonic? = some .ldx) ∧
    (∀ f, f ∈ [Flag.v, Flag.u, Flag.b, Flag.d, Flag.i] → t.flag f = s.flag f) ∧
    (∀ addr, t.readCpu addr ≠ s.readCpu addr → i.mnemonic? = some .sta ∨ i.mnemonic? = some .stx ∨
      i.mnemonic? = some .sty ∨ i.mnemonic? = some .jsr)

/-- R60, R79, R142: no CPU address aliases a PPU key (decision D8), and a pending NMI changes nothing the CPU step
does (decision D11). -/
def Obligations.CpuStepLeavesTheRestAlone : Prop :=
  (∀ s t : State, cpuStep s = .next t → SameOutsideCpu s t) ∧
  (∀ s u : State, SameCpu s u →
    (∀ f, cpuStep s = .fault f → cpuStep u = .fault f) ∧
    (∀ t, cpuStep s = .next t → ∃ t', cpuStep u = .next t' ∧ SameCpu t t'))

/-- R271, R272, R273. That the scanline is tested only in a step that wrapped the dot is decision D13, which cannot be
told from in-range counters. -/
def Obligations.PpuCountersAdvance : Prop :=
  ∀ s : State, s.scanline ≤ 261 →
    (∀ t, ppuStep s = .next t →
      t.ppuCycles.val = (if s.ppuCycles.val = 340 then 0 else s.ppuCycles.val + 1) ∧
      t.scanline =
        (if s.ppuCycles.val = 340 then (if s.scanline = 261 then 0 else s.scanline + 1) else s.scanline) ∧
      t.frameCount = (if s.ppuCycles.val = 340 ∧ s.scanline = 261 then s.frameCount + 1 else s.frameCount)) ∧
    (s.scrollY = 0x00#8 → ∃ t, ppuStep s = .next t)

/-- R274, R275, R276, each row as an equivalence. -/
def Obligations.PhaseTable : Prop :=
  ∀ sl c : Nat, c ≤ 340 →
    (classify sl c = .render .idle ↔ sl ≤ 239 ∧ (c = 0 ∨ (257 ≤ c ∧ c ≤ 320) ∨ 337 ≤ c)) ∧
    (classify sl c = .render .visible ↔ sl ≤ 239 ∧ 1 ≤ c ∧ c ≤ 256) ∧
    (classify sl c = .render .preFetch ↔ sl ≤ 239 ∧ 321 ≤ c ∧ c ≤ 336) ∧
    (classify sl c = .postRender ↔ sl = 240) ∧
    (classify sl c = .vBlank ↔ 241 ≤ sl ∧ sl ≤ 260) ∧
    (classify sl c = .preRender .idle ↔ sl = 261 ∧ (c = 0 ∨ (2 ≤ c ∧ c ≤ 279) ∨ 305 ≤ c)) ∧
    (classify sl c = .preRender .clearVBlank ↔ sl = 261 ∧ c = 1) ∧
    (classify sl c = .preRender .reloadY ↔ sl = 261 ∧ 280 ≤ c ∧ c ≤ 304) ∧
    (classify sl c = .invalid ↔ 262 ≤ sl)

/-- R279. The position (241, 0) is decision D12. -/
def Obligations.VBlankEntry : Prop :=
  ∀ s : State, s.ppuCycles = 340 → s.scanline = 240 →
    ppuStep s = .next { s with
      ppuCycles := 0, scanline := 241, verticalBlank := true, latch := if s.generateNmi then .nmi else s.latch }

/-- R280, R281: in particular ClearVBlank does not clear VerticalBlank. Which position is the entry is decision D12.
-/
def Obligations.QuietPhasesMoveCountersOnly : Prop :=
  ∀ s : State,
    (classify (tick s).scanline (tick s).ppuCycles.val ∈
        [.render .idle, .render .preFetch, .postRender, .preRender .idle, .preRender .clearVBlank, .preRender .reloadY] ∨
      (classify (tick s).scanline (tick s).ppuCycles.val = .vBlank ∧
        ¬ ((tick s).scanline = 241 ∧ (tick s).ppuCycles = 0))) →
    ∃ t, ppuStep s = .next t ∧
      t = { s with ppuCycles := (tick s).ppuCycles, scanline := (tick s).scanline, frameCount := (tick s).frameCount }

/-- R290 written out over PPU memory with natural-number arithmetic. Addresses modulo 65536 are decision D9, the
untruncated tile shift D16, the plane order D17; PALETTE is open (D15), so the statement holds for every table. -/
def Obligations.VisibleDotRendersItsPixel : Prop :=
  ∀ (s : State) (x y : Nat), s.ppuCycles.val = x → s.scanline = y → x ≤ 255 → y ≤ 239 → y + s.scrollY.toNat ≤ 239 →
    ∃ t, ppuStep s = .next t ∧
      (let y' := y + s.scrollY.toNat
       let tile := s.readPpu (BitVec.ofNat 16 (s.nameTableAddr.toNat + 32 * (y' / 8 % 30) + x / 8 % 32))
       let pa := 16 * tile.toNat + y' % 8 + s.backgroundTableAddr.toNat
       let lo := (s.readPpu (BitVec.ofNat 16 pa)).toNat / 2 ^ (7 - x % 8) % 2
       let hi := (s.readPpu (BitVec.ofNat 16 (pa + 8))).toNat / 2 ^ (7 - x % 8) % 2
       let idx := (s.readPpu (BitVec.ofNat 16 (0x3F00 + 2 * hi + lo))).toNat % 64
       t.screen.read x y' = Config.palette (BitVec.ofNat 6 idx) ∧
       (∀ x' y'', x' < 256 → ¬ (x' = x ∧ y'' = y') → t.screen.read x' y'' = s.screen.read x' y'')) ∧
      t.ppuCycles.val = x + 1 ∧ t = { s with ppuCycles := t.ppuCycles, screen := t.screen }

/-- R301, R314: the fault is the spec's own decision D14, an upgrade of what the source leaves silent. -/
def Obligations.RowOutsideTheFramebufferFaults : Prop :=
  ∀ (s : State) (x y : Nat), s.ppuCycles.val = x → s.scanline = y → x ≤ 255 → y ≤ 239 → 239 < y + s.scrollY.toNat →
    ppuStep s = .fault (.framebufferRow x (y + s.scrollY.toNat))

/-- R291; that ScrollX has no effect is decision D34. -/
def Obligations.ScrollXHasNoEffect : Prop :=
  ∀ (s : State) (v : Byte),
    (∀ t, ppuStep s = .next t → ppuStep (s.setScrollX v) = .next (t.setScrollX v)) ∧
    (∀ f, ppuStep s = .fault f → ppuStep (s.setScrollX v) = .fault f)

/-- R282, R312: unreachable under the counters' invariants, and specified all the same. The second clause rests on
decision D13 (log 21): the scanline is tested for its wrap only in a step that wraps the dot. That Scanline is a
number with an invariant rather than a bounded type is the model's choice (log 14). -/
def Obligations.InvariantViolationOnlyOutOfRange : Prop :=
  (∀ s : State, s.scanline ≤ 261 → ∀ sl c, ppuStep s ≠ .fault (.invariantViolation sl c)) ∧
  (∀ s : State, s.ppuCycles.val < 340 → 261 < s.scanline →
    ppuStep s = .fault (.invariantViolation s.scanline (s.ppuCycles.val + 1)))

/-- R284 [derived], for every number of steps and every in-range start; ScrollY = 0 rules out the fault of R301. -/
def Obligations.PpuFramePeriod : Prop :=
  ∀ (s : State), s.scanline ≤ 261 → s.scrollY = 0x00#8 →
    (∀ k, ∃ t, runEngine ppuStep k s = .next t ∧ position t = (position s + k) % 89342 ∧
      t.scanline ≤ 261 ∧ t.frameCount = s.frameCount + (position s + k) / 89342) ∧
    (∃ t, runEngine ppuStep 341 s = .next t ∧ t.ppuCycles = s.ppuCycles ∧ t.scanline = (s.scanline + 1) % 262) ∧
    (∃ t, runEngine ppuStep 89342 s = .next t ∧ t.ppuCycles = s.ppuCycles ∧ t.scanline = s.scanline ∧
      t.frameCount = s.frameCount + 1)

/-- R285 [derived], with the correction C2. Whatever ScrollY, no pixel is drawn before step 7163. -/
def Obligations.FirstFrameAfterPpuReset : Prop :=
  ∀ s : State,
    (∀ k, 1 ≤ k → k ≤ 7162 → ∃ t, runEngine ppuStep k (resetPpu s) = .next t ∧ t.verticalBlank = true ∧
      t.latch = (if s.generateNmi then .nmi else s.latch) ∧ t.screen = s.screen ∧
      t.frameCount = (if k < 7162 then s.frameCount else s.frameCount + 1) ∧
      (k = 1 → t.scanline = 241 ∧ t.ppuCycles = 0) ∧ (k = 7162 → t.scanline = 0 ∧ t.ppuCycles = 0)) ∧
    (s.scrollY.toNat ≤ 239 → ∃ t c, runEngine ppuStep 7163 (resetPpu s) = .next t ∧ t.scanline = 0 ∧
      t.ppuCycles = 1 ∧ t.screen = s.screen.write 0 s.scrollY.toNat c)

/-- R78, R60, R303: four reads in a Visible step and none elsewhere, and no other effect of the renderer. -/
def Obligations.PpuStepReadsOnlyItsAccessList : Prop :=
  (∀ s t : State, ppuStep s = .next t →
    SameCpu s t ∧ SameDriver s t ∧ t.ppuMem = s.ppuMem ∧ t.scrollX = s.scrollX ∧ t.scrollY = s.scrollY ∧
    t.nameTableAddr = s.nameTableAddr ∧ t.backgroundTableAddr = s.backgroundTableAddr ∧
    t.generateNmi = s.generateNmi ∧
    ((∃ x y v, .screenWrite x y v ∈ ppuAccesses s ∧ t.screen = s.screen.write x y v) ∨
      ((∀ x y v, .screenWrite x y v ∉ ppuAccesses s) ∧ t.screen = s.screen))) ∧
  (∀ (s : State) (m : Memory), (∀ addr, .ppuRead addr ∈ ppuAccesses s → m.read addr = s.readPpu addr) →
    (∀ f, ppuStep s = .fault f → ppuStep (s.setPpuMem m) = .fault f) ∧
    (∀ t, ppuStep s = .next t → ppuStep (s.setPpuMem m) = .next (t.setPpuMem m)))

/-- R29, R36, R39, R319: the core sets these and never clears them; only the host does. The position is decision D12,
the latch's two values D11. -/
def Obligations.OnlyVBlankEntryRaisesNmi : Prop :=
  ∀ s t : State, s.scanline ≤ 261 → (cpuStep s = .next t ∨ ppuStep s = .next t) →
    (s.latch = .nmi → t.latch = .nmi) ∧ (s.verticalBlank = true → t.verticalBlank = true) ∧
    s.frameCount ≤ t.frameCount ∧
    (t.latch ≠ s.latch → ppuStep s = .next t ∧ s.scanline = 240 ∧ s.ppuCycles = 340 ∧ s.generateNmi = true) ∧
    (t.verticalBlank ≠ s.verticalBlank → ppuStep s = .next t ∧ s.scanline = 240 ∧ s.ppuCycles = 340)

/-- R79 [derived], for every state. -/
def Obligations.CpuAndPpuStepsCommute : Prop :=
  ∀ s t : State,
    (cpuStep s = .next t → ∀ u, ppuStep t = .next u → ∃ t', ppuStep s = .next t' ∧ cpuStep t' = .next u) ∧
    (ppuStep s = .next t → ∀ u, cpuStep t = .next u → ∃ t', cpuStep s = .next t' ∧ ppuStep t' = .next u) ∧
    (ppuStep s = .next t → ∀ f, cpuStep s = .fault f ↔ cpuStep t = .fault f) ∧
    (cpuStep s = .next t → ∀ f, ppuStep s = .fault f ↔ ppuStep t = .fault f)

/-- R347: every interleaving is admitted, and only the counts matter. The schedule is held beside the machine's state
as a list of turns (log 7). -/
def Obligations.ScheduleOrderDoesNotMatter : Prop :=
  ∀ (s t : State) (us vs : List Turn), (∀ u ∈ us, u = .cpu ∨ u = .ppu) → us.Perm vs →
    runEngine step us.length (s.setTurns us) = .next t → runEngine step vs.length (s.setTurns vs) = .next t

/-- R315, R43: no handler, no recovery, never cleared. That the session sets the record when it takes the outcome, and
that every turn, the host's too, answers the recorded fault again, is the model's choice (log 8). That the session's
state is otherwise kept is decision D20 and log 9; no clause says what it holds after the fault but the record. -/
def Obligations.FaultIsTerminal : Prop :=
  (∀ (s : State) (f : Fault), step s = .fault f → (sessionStep s).faultRecord = some f) ∧
  (∀ (s : State) (f : Fault) (n : Nat), s.faultRecord = some f →
    (sessionStep^[n] s).faultRecord = some f ∧ step (sessionStep^[n] s) = .fault f)

/-- R342; that nothing else is changed is decision D33. The turn is the model's way to hold the host's action (log
15). -/
def Obligations.PpuResetStoresThreeRegisters : Prop :=
  ∀ (s : State) (us : List Turn), s.faultRecord = none → s.turns = .host .resetPpu :: us →
    step s = .next { s with ppuCycles := 340, scanline := 240, verticalBlank := false, turns := us }

/-- R37, R38, R352: that the store is refused is decision D24. -/
def Obligations.HostCounterStoresKeepTheRange : Prop :=
  ∀ (s : State) (n : Nat),
    (∀ h : n < 341, hostAct (.storePpuCycles n) s = .next { s with ppuCycles := ⟨n, h⟩ }) ∧
    (340 < n → hostAct (.storePpuCycles n) s = .refused (.hostStoreOutOfRange .ppuCycles n)) ∧
    (n ≤ 261 → hostAct (.storeScanline n) s = .next { s with scanline := n }) ∧
    (261 < n → hostAct (.storeScanline n) s = .refused (.hostStoreOutOfRange .scanline n))

/-- R352, R61: a host action between steps is one atomic store, of the value the action carries (HostAction.Stored).
The list of host actions is the model's (log 15). -/
def Obligations.HostTurnStoresOneKey : Prop :=
  (∀ (action : HostAction) (s t : State), action ≠ .resetPpu → hostAct action s = .next t →
    action.Stored t ∧ (∃ (k : Key) (v : k.Val), action.target = some k ∧ t = s.store k v) ∧
    (∀ k, action.target ≠ some k → t.load k = s.load k) ∧ SameDriver s t) ∧
  (∀ (action : HostAction) (s : State), (∀ n, action = .storePpuCycles n → n ≤ 340) →
    (∀ n, action = .storeScanline n → n ≤ 261) → ∃ t, hostAct action s = .next t)

/-- R37, R38, R42 as an inductive invariant of CPU, PPU and host turns. The canonical form of memories is the model's
(logs 5 and 6). -/
def Obligations.StepKeepsTheInvariant : Prop :=
  ∀ s t : State, s.Inv → step s = .next t → t.Inv

/-- R45 with the model's empty memories (logs 5 and 6). -/
def Obligations.ResetMeetsTheInvariant : Prop :=
  State.reset.Inv

/-- The values R45 gives; every other field of State.reset is the model's choice (logs 4 to 7) and nothing is said of
it. -/
def Obligations.ResetValuesTheSpecGives : Prop :=
  State.reset.ppuCycles = 340 ∧ State.reset.scanline = 240 ∧ State.reset.verticalBlank = false ∧
  State.reset.faultRecord = none ∧ resetPpu State.reset = State.reset

/-- R7, R47: the schedule is a parameter and not state, and no instruction can read or write it. That the interface's
State carries it beside the machine's state is the model's choice (log 7). -/
def Obligations.StepIsATurnOfTheMachine : Prop :=
  ∀ s : State,
    step s = mapNext (fun c => c.withSchedule s.nextTurn.2 s.cycle) (takeTurn s.nextTurn.1 s.toCoreState)

/-- R347: any finite or infinite sequence of CPU steps, PPU steps and host actions. How the schedule is carried is the
model's choice (log 7); that a run ends at a refused host store is log 9. -/
def Obligations.ScheduleIsAParameterOfARun : Prop :=
  ∀ (schedule : Nat → Turn) (s : State),
    (∀ k, mapNext State.toCoreState (runEngine step k (s.setTurns ((List.range k).map schedule))) =
      runSchedule schedule k s.toCoreState) ∧
    (∀ j, s.turns = [] → s.cycle = (List.range (j + 1)).map schedule →
      (∀ n, schedule (n + (j + 1)) = schedule n) →
      ∀ k, mapNext State.toCoreState (runEngine step k s) = runSchedule schedule k s.toCoreState)
end

