-- ==== Sys2Proof/Laws/State.lean ====
section
/-! SUPPORT. One lemma for each field of State and each setter: what the field holds after the update. -/

namespace Sys2Proof.Machine

@[simp] theorem setA_a (s : State) (v : Byte) : (s.setA v).a = v := rfl
@[simp] theorem setA_x (s : State) (v : Byte) : (s.setA v).x = s.x := rfl
@[simp] theorem setA_y (s : State) (v : Byte) : (s.setA v).y = s.y := rfl
@[simp] theorem setA_sp (s : State) (v : Byte) : (s.setA v).sp = s.sp := rfl
@[simp] theorem setA_pc (s : State) (v : Byte) : (s.setA v).pc = s.pc := rfl
@[simp] theorem setA_p (s : State) (v : Byte) : (s.setA v).p = s.p := rfl
@[simp] theorem setA_cpuMem (s : State) (v : Byte) : (s.setA v).cpuMem = s.cpuMem := rfl
@[simp] theorem setA_latch (s : State) (v : Byte) : (s.setA v).latch = s.latch := rfl
@[simp] theorem setA_scrollX (s : State) (v : Byte) : (s.setA v).scrollX = s.scrollX := rfl
@[simp] theorem setA_scrollY (s : State) (v : Byte) : (s.setA v).scrollY = s.scrollY := rfl
@[simp] theorem setA_nameTableAddr (s : State) (v : Byte) : (s.setA v).nameTableAddr = s.nameTableAddr := rfl
@[simp] theorem setA_backgroundTableAddr (s : State) (v : Byte) : (s.setA v).backgroundTableAddr = s.backgroundTableAddr := rfl
@[simp] theorem setA_generateNmi (s : State) (v : Byte) : (s.setA v).generateNmi = s.generateNmi := rfl
@[simp] theorem setA_verticalBlank (s : State) (v : Byte) : (s.setA v).verticalBlank = s.verticalBlank := rfl
@[simp] theorem setA_ppuCycles (s : State) (v : Byte) : (s.setA v).ppuCycles = s.ppuCycles := rfl
@[simp] theorem setA_scanline (s : State) (v : Byte) : (s.setA v).scanline = s.scanline := rfl
@[simp] theorem setA_frameCount (s : State) (v : Byte) : (s.setA v).frameCount = s.frameCount := rfl
@[simp] theorem setA_ppuMem (s : State) (v : Byte) : (s.setA v).ppuMem = s.ppuMem := rfl
@[simp] theorem setA_screen (s : State) (v : Byte) : (s.setA v).screen = s.screen := rfl
@[simp] theorem setA_faultRecord (s : State) (v : Byte) : (s.setA v).faultRecord = s.faultRecord := rfl
@[simp] theorem setA_turns (s : State) (v : Byte) : (s.setA v).turns = s.turns := rfl
@[simp] theorem setA_cycle (s : State) (v : Byte) : (s.setA v).cycle = s.cycle := rfl

@[simp] theorem setX_a (s : State) (v : Byte) : (s.setX v).a = s.a := rfl
@[simp] theorem setX_x (s : State) (v : Byte) : (s.setX v).x = v := rfl
@[simp] theorem setX_y (s : State) (v : Byte) : (s.setX v).y = s.y := rfl
@[simp] theorem setX_sp (s : State) (v : Byte) : (s.setX v).sp = s.sp := rfl
@[simp] theorem setX_pc (s : State) (v : Byte) : (s.setX v).pc = s.pc := rfl
@[simp] theorem setX_p (s : State) (v : Byte) : (s.setX v).p = s.p := rfl
@[simp] theorem setX_cpuMem (s : State) (v : Byte) : (s.setX v).cpuMem = s.cpuMem := rfl
@[simp] theorem setX_latch (s : State) (v : Byte) : (s.setX v).latch = s.latch := rfl
@[simp] theorem setX_scrollX (s : State) (v : Byte) : (s.setX v).scrollX = s.scrollX := rfl
@[simp] theorem setX_scrollY (s : State) (v : Byte) : (s.setX v).scrollY = s.scrollY := rfl
@[simp] theorem setX_nameTableAddr (s : State) (v : Byte) : (s.setX v).nameTableAddr = s.nameTableAddr := rfl
@[simp] theorem setX_backgroundTableAddr (s : State) (v : Byte) : (s.setX v).backgroundTableAddr = s.backgroundTableAddr := rfl
@[simp] theorem setX_generateNmi (s : State) (v : Byte) : (s.setX v).generateNmi = s.generateNmi := rfl
@[simp] theorem setX_verticalBlank (s : State) (v : Byte) : (s.setX v).verticalBlank = s.verticalBlank := rfl
@[simp] theorem setX_ppuCycles (s : State) (v : Byte) : (s.setX v).ppuCycles = s.ppuCycles := rfl
@[simp] theorem setX_scanline (s : State) (v : Byte) : (s.setX v).scanline = s.scanline := rfl
@[simp] theorem setX_frameCount (s : State) (v : Byte) : (s.setX v).frameCount = s.frameCount := rfl
@[simp] theorem setX_ppuMem (s : State) (v : Byte) : (s.setX v).ppuMem = s.ppuMem := rfl
@[simp] theorem setX_screen (s : State) (v : Byte) : (s.setX v).screen = s.screen := rfl
@[simp] theorem setX_faultRecord (s : State) (v : Byte) : (s.setX v).faultRecord = s.faultRecord := rfl
@[simp] theorem setX_turns (s : State) (v : Byte) : (s.setX v).turns = s.turns := rfl
@[simp] theorem setX_cycle (s : State) (v : Byte) : (s.setX v).cycle = s.cycle := rfl

@[simp] theorem setY_a (s : State) (v : Byte) : (s.setY v).a = s.a := rfl
@[simp] theorem setY_x (s : State) (v : Byte) : (s.setY v).x = s.x := rfl
@[simp] theorem setY_y (s : State) (v : Byte) : (s.setY v).y = v := rfl
@[simp] theorem setY_sp (s : State) (v : Byte) : (s.setY v).sp = s.sp := rfl
@[simp] theorem setY_pc (s : State) (v : Byte) : (s.setY v).pc = s.pc := rfl
@[simp] theorem setY_p (s : State) (v : Byte) : (s.setY v).p = s.p := rfl
@[simp] theorem setY_cpuMem (s : State) (v : Byte) : (s.setY v).cpuMem = s.cpuMem := rfl
@[simp] theorem setY_latch (s : State) (v : Byte) : (s.setY v).latch = s.latch := rfl
@[simp] theorem setY_scrollX (s : State) (v : Byte) : (s.setY v).scrollX = s.scrollX := rfl
@[simp] theorem setY_scrollY (s : State) (v : Byte) : (s.setY v).scrollY = s.scrollY := rfl
@[simp] theorem setY_nameTableAddr (s : State) (v : Byte) : (s.setY v).nameTableAddr = s.nameTableAddr := rfl
@[simp] theorem setY_backgroundTableAddr (s : State) (v : Byte) : (s.setY v).backgroundTableAddr = s.backgroundTableAddr := rfl
@[simp] theorem setY_generateNmi (s : State) (v : Byte) : (s.setY v).generateNmi = s.generateNmi := rfl
@[simp] theorem setY_verticalBlank (s : State) (v : Byte) : (s.setY v).verticalBlank = s.verticalBlank := rfl
@[simp] theorem setY_ppuCycles (s : State) (v : Byte) : (s.setY v).ppuCycles = s.ppuCycles := rfl
@[simp] theorem setY_scanline (s : State) (v : Byte) : (s.setY v).scanline = s.scanline := rfl
@[simp] theorem setY_frameCount (s : State) (v : Byte) : (s.setY v).frameCount = s.frameCount := rfl
@[simp] theorem setY_ppuMem (s : State) (v : Byte) : (s.setY v).ppuMem = s.ppuMem := rfl
@[simp] theorem setY_screen (s : State) (v : Byte) : (s.setY v).screen = s.screen := rfl
@[simp] theorem setY_faultRecord (s : State) (v : Byte) : (s.setY v).faultRecord = s.faultRecord := rfl
@[simp] theorem setY_turns (s : State) (v : Byte) : (s.setY v).turns = s.turns := rfl
@[simp] theorem setY_cycle (s : State) (v : Byte) : (s.setY v).cycle = s.cycle := rfl

@[simp] theorem setSp_a (s : State) (v : Byte) : (s.setSp v).a = s.a := rfl
@[simp] theorem setSp_x (s : State) (v : Byte) : (s.setSp v).x = s.x := rfl
@[simp] theorem setSp_y (s : State) (v : Byte) : (s.setSp v).y = s.y := rfl
@[simp] theorem setSp_sp (s : State) (v : Byte) : (s.setSp v).sp = v := rfl
@[simp] theorem setSp_pc (s : State) (v : Byte) : (s.setSp v).pc = s.pc := rfl
@[simp] theorem setSp_p (s : State) (v : Byte) : (s.setSp v).p = s.p := rfl
@[simp] theorem setSp_cpuMem (s : State) (v : Byte) : (s.setSp v).cpuMem = s.cpuMem := rfl
@[simp] theorem setSp_latch (s : State) (v : Byte) : (s.setSp v).latch = s.latch := rfl
@[simp] theorem setSp_scrollX (s : State) (v : Byte) : (s.setSp v).scrollX = s.scrollX := rfl
@[simp] theorem setSp_scrollY (s : State) (v : Byte) : (s.setSp v).scrollY = s.scrollY := rfl
@[simp] theorem setSp_nameTableAddr (s : State) (v : Byte) : (s.setSp v).nameTableAddr = s.nameTableAddr := rfl
@[simp] theorem setSp_backgroundTableAddr (s : State) (v : Byte) : (s.setSp v).backgroundTableAddr = s.backgroundTableAddr := rfl
@[simp] theorem setSp_generateNmi (s : State) (v : Byte) : (s.setSp v).generateNmi = s.generateNmi := rfl
@[simp] theorem setSp_verticalBlank (s : State) (v : Byte) : (s.setSp v).verticalBlank = s.verticalBlank := rfl
@[simp] theorem setSp_ppuCycles (s : State) (v : Byte) : (s.setSp v).ppuCycles = s.ppuCycles := rfl
@[simp] theorem setSp_scanline (s : State) (v : Byte) : (s.setSp v).scanline = s.scanline := rfl
@[simp] theorem setSp_frameCount (s : State) (v : Byte) : (s.setSp v).frameCount = s.frameCount := rfl
@[simp] theorem setSp_ppuMem (s : State) (v : Byte) : (s.setSp v).ppuMem = s.ppuMem := rfl
@[simp] theorem setSp_screen (s : State) (v : Byte) : (s.setSp v).screen = s.screen := rfl
@[simp] theorem setSp_faultRecord (s : State) (v : Byte) : (s.setSp v).faultRecord = s.faultRecord := rfl
@[simp] theorem setSp_turns (s : State) (v : Byte) : (s.setSp v).turns = s.turns := rfl
@[simp] theorem setSp_cycle (s : State) (v : Byte) : (s.setSp v).cycle = s.cycle := rfl

@[simp] theorem setPc_a (s : State) (v : Word) : (s.setPc v).a = s.a := rfl
@[simp] theorem setPc_x (s : State) (v : Word) : (s.setPc v).x = s.x := rfl
@[simp] theorem setPc_y (s : State) (v : Word) : (s.setPc v).y = s.y := rfl
@[simp] theorem setPc_sp (s : State) (v : Word) : (s.setPc v).sp = s.sp := rfl
@[simp] theorem setPc_pc (s : State) (v : Word) : (s.setPc v).pc = v := rfl
@[simp] theorem setPc_p (s : State) (v : Word) : (s.setPc v).p = s.p := rfl
@[simp] theorem setPc_cpuMem (s : State) (v : Word) : (s.setPc v).cpuMem = s.cpuMem := rfl
@[simp] theorem setPc_latch (s : State) (v : Word) : (s.setPc v).latch = s.latch := rfl
@[simp] theorem setPc_scrollX (s : State) (v : Word) : (s.setPc v).scrollX = s.scrollX := rfl
@[simp] theorem setPc_scrollY (s : State) (v : Word) : (s.setPc v).scrollY = s.scrollY := rfl
@[simp] theorem setPc_nameTableAddr (s : State) (v : Word) : (s.setPc v).nameTableAddr = s.nameTableAddr := rfl
@[simp] theorem setPc_backgroundTableAddr (s : State) (v : Word) : (s.setPc v).backgroundTableAddr = s.backgroundTableAddr := rfl
@[simp] theorem setPc_generateNmi (s : State) (v : Word) : (s.setPc v).generateNmi = s.generateNmi := rfl
@[simp] theorem setPc_verticalBlank (s : State) (v : Word) : (s.setPc v).verticalBlank = s.verticalBlank := rfl
@[simp] theorem setPc_ppuCycles (s : State) (v : Word) : (s.setPc v).ppuCycles = s.ppuCycles := rfl
@[simp] theorem setPc_scanline (s : State) (v : Word) : (s.setPc v).scanline = s.scanline := rfl
@[simp] theorem setPc_frameCount (s : State) (v : Word) : (s.setPc v).frameCount = s.frameCount := rfl
@[simp] theorem setPc_ppuMem (s : State) (v : Word) : (s.setPc v).ppuMem = s.ppuMem := rfl
@[simp] theorem setPc_screen (s : State) (v : Word) : (s.setPc v).screen = s.screen := rfl
@[simp] theorem setPc_faultRecord (s : State) (v : Word) : (s.setPc v).faultRecord = s.faultRecord := rfl
@[simp] theorem setPc_turns (s : State) (v : Word) : (s.setPc v).turns = s.turns := rfl
@[simp] theorem setPc_cycle (s : State) (v : Word) : (s.setPc v).cycle = s.cycle := rfl

@[simp] theorem setP_a (s : State) (v : Byte) : (s.setP v).a = s.a := rfl
@[simp] theorem setP_x (s : State) (v : Byte) : (s.setP v).x = s.x := rfl
@[simp] theorem setP_y (s : State) (v : Byte) : (s.setP v).y = s.y := rfl
@[simp] theorem setP_sp (s : State) (v : Byte) : (s.setP v).sp = s.sp := rfl
@[simp] theorem setP_pc (s : State) (v : Byte) : (s.setP v).pc = s.pc := rfl
@[simp] theorem setP_p (s : State) (v : Byte) : (s.setP v).p = v := rfl
@[simp] theorem setP_cpuMem (s : State) (v : Byte) : (s.setP v).cpuMem = s.cpuMem := rfl
@[simp] theorem setP_latch (s : State) (v : Byte) : (s.setP v).latch = s.latch := rfl
@[simp] theorem setP_scrollX (s : State) (v : Byte) : (s.setP v).scrollX = s.scrollX := rfl
@[simp] theorem setP_scrollY (s : State) (v : Byte) : (s.setP v).scrollY = s.scrollY := rfl
@[simp] theorem setP_nameTableAddr (s : State) (v : Byte) : (s.setP v).nameTableAddr = s.nameTableAddr := rfl
@[simp] theorem setP_backgroundTableAddr (s : State) (v : Byte) : (s.setP v).backgroundTableAddr = s.backgroundTableAddr := rfl
@[simp] theorem setP_generateNmi (s : State) (v : Byte) : (s.setP v).generateNmi = s.generateNmi := rfl
@[simp] theorem setP_verticalBlank (s : State) (v : Byte) : (s.setP v).verticalBlank = s.verticalBlank := rfl
@[simp] theorem setP_ppuCycles (s : State) (v : Byte) : (s.setP v).ppuCycles = s.ppuCycles := rfl
@[simp] theorem setP_scanline (s : State) (v : Byte) : (s.setP v).scanline = s.scanline := rfl
@[simp] theorem setP_frameCount (s : State) (v : Byte) : (s.setP v).frameCount = s.frameCount := rfl
@[simp] theorem setP_ppuMem (s : State) (v : Byte) : (s.setP v).ppuMem = s.ppuMem := rfl
@[simp] theorem setP_screen (s : State) (v : Byte) : (s.setP v).screen = s.screen := rfl
@[simp] theorem setP_faultRecord (s : State) (v : Byte) : (s.setP v).faultRecord = s.faultRecord := rfl
@[simp] theorem setP_turns (s : State) (v : Byte) : (s.setP v).turns = s.turns := rfl
@[simp] theorem setP_cycle (s : State) (v : Byte) : (s.setP v).cycle = s.cycle := rfl

@[simp] theorem setCpuMem_a (s : State) (v : Memory) : (s.setCpuMem v).a = s.a := rfl
@[simp] theorem setCpuMem_x (s : State) (v : Memory) : (s.setCpuMem v).x = s.x := rfl
@[simp] theorem setCpuMem_y (s : State) (v : Memory) : (s.setCpuMem v).y = s.y := rfl
@[simp] theorem setCpuMem_sp (s : State) (v : Memory) : (s.setCpuMem v).sp = s.sp := rfl
@[simp] theorem setCpuMem_pc (s : State) (v : Memory) : (s.setCpuMem v).pc = s.pc := rfl
@[simp] theorem setCpuMem_p (s : State) (v : Memory) : (s.setCpuMem v).p = s.p := rfl
@[simp] theorem setCpuMem_cpuMem (s : State) (v : Memory) : (s.setCpuMem v).cpuMem = v := rfl
@[simp] theorem setCpuMem_latch (s : State) (v : Memory) : (s.setCpuMem v).latch = s.latch := rfl
@[simp] theorem setCpuMem_scrollX (s : State) (v : Memory) : (s.setCpuMem v).scrollX = s.scrollX := rfl
@[simp] theorem setCpuMem_scrollY (s : State) (v : Memory) : (s.setCpuMem v).scrollY = s.scrollY := rfl
@[simp] theorem setCpuMem_nameTableAddr (s : State) (v : Memory) : (s.setCpuMem v).nameTableAddr = s.nameTableAddr := rfl
@[simp] theorem setCpuMem_backgroundTableAddr (s : State) (v : Memory) : (s.setCpuMem v).backgroundTableAddr = s.backgroundTableAddr := rfl
@[simp] theorem setCpuMem_generateNmi (s : State) (v : Memory) : (s.setCpuMem v).generateNmi = s.generateNmi := rfl
@[simp] theorem setCpuMem_verticalBlank (s : State) (v : Memory) : (s.setCpuMem v).verticalBlank = s.verticalBlank := rfl
@[simp] theorem setCpuMem_ppuCycles (s : State) (v : Memory) : (s.setCpuMem v).ppuCycles = s.ppuCycles := rfl
@[simp] theorem setCpuMem_scanline (s : State) (v : Memory) : (s.setCpuMem v).scanline = s.scanline := rfl
@[simp] theorem setCpuMem_frameCount (s : State) (v : Memory) : (s.setCpuMem v).frameCount = s.frameCount := rfl
@[simp] theorem setCpuMem_ppuMem (s : State) (v : Memory) : (s.setCpuMem v).ppuMem = s.ppuMem := rfl
@[simp] theorem setCpuMem_screen (s : State) (v : Memory) : (s.setCpuMem v).screen = s.screen := rfl
@[simp] theorem setCpuMem_faultRecord (s : State) (v : Memory) : (s.setCpuMem v).faultRecord = s.faultRecord := rfl
@[simp] theorem setCpuMem_turns (s : State) (v : Memory) : (s.setCpuMem v).turns = s.turns := rfl
@[simp] theorem setCpuMem_cycle (s : State) (v : Memory) : (s.setCpuMem v).cycle = s.cycle := rfl

@[simp] theorem setLatch_a (s : State) (v : Latch) : (s.setLatch v).a = s.a := rfl
@[simp] theorem setLatch_x (s : State) (v : Latch) : (s.setLatch v).x = s.x := rfl
@[simp] theorem setLatch_y (s : State) (v : Latch) : (s.setLatch v).y = s.y := rfl
@[simp] theorem setLatch_sp (s : State) (v : Latch) : (s.setLatch v).sp = s.sp := rfl
@[simp] theorem setLatch_pc (s : State) (v : Latch) : (s.setLatch v).pc = s.pc := rfl
@[simp] theorem setLatch_p (s : State) (v : Latch) : (s.setLatch v).p = s.p := rfl
@[simp] theorem setLatch_cpuMem (s : State) (v : Latch) : (s.setLatch v).cpuMem = s.cpuMem := rfl
@[simp] theorem setLatch_latch (s : State) (v : Latch) : (s.setLatch v).latch = v := rfl
@[simp] theorem setLatch_scrollX (s : State) (v : Latch) : (s.setLatch v).scrollX = s.scrollX := rfl
@[simp] theorem setLatch_scrollY (s : State) (v : Latch) : (s.setLatch v).scrollY = s.scrollY := rfl
@[simp] theorem setLatch_nameTableAddr (s : State) (v : Latch) : (s.setLatch v).nameTableAddr = s.nameTableAddr := rfl
@[simp] theorem setLatch_backgroundTableAddr (s : State) (v : Latch) : (s.setLatch v).backgroundTableAddr = s.backgroundTableAddr := rfl
@[simp] theorem setLatch_generateNmi (s : State) (v : Latch) : (s.setLatch v).generateNmi = s.generateNmi := rfl
@[simp] theorem setLatch_verticalBlank (s : State) (v : Latch) : (s.setLatch v).verticalBlank = s.verticalBlank := rfl
@[simp] theorem setLatch_ppuCycles (s : State) (v : Latch) : (s.setLatch v).ppuCycles = s.ppuCycles := rfl
@[simp] theorem setLatch_scanline (s : State) (v : Latch) : (s.setLatch v).scanline = s.scanline := rfl
@[simp] theorem setLatch_frameCount (s : State) (v : Latch) : (s.setLatch v).frameCount = s.frameCount := rfl
@[simp] theorem setLatch_ppuMem (s : State) (v : Latch) : (s.setLatch v).ppuMem = s.ppuMem := rfl
@[simp] theorem setLatch_screen (s : State) (v : Latch) : (s.setLatch v).screen = s.screen := rfl
@[simp] theorem setLatch_faultRecord (s : State) (v : Latch) : (s.setLatch v).faultRecord = s.faultRecord := rfl
@[simp] theorem setLatch_turns (s : State) (v : Latch) : (s.setLatch v).turns = s.turns := rfl
@[simp] theorem setLatch_cycle (s : State) (v : Latch) : (s.setLatch v).cycle = s.cycle := rfl

@[simp] theorem setScrollX_a (s : State) (v : Byte) : (s.setScrollX v).a = s.a := rfl
@[simp] theorem setScrollX_x (s : State) (v : Byte) : (s.setScrollX v).x = s.x := rfl
@[simp] theorem setScrollX_y (s : State) (v : Byte) : (s.setScrollX v).y = s.y := rfl
@[simp] theorem setScrollX_sp (s : State) (v : Byte) : (s.setScrollX v).sp = s.sp := rfl
@[simp] theorem setScrollX_pc (s : State) (v : Byte) : (s.setScrollX v).pc = s.pc := rfl
@[simp] theorem setScrollX_p (s : State) (v : Byte) : (s.setScrollX v).p = s.p := rfl
@[simp] theorem setScrollX_cpuMem (s : State) (v : Byte) : (s.setScrollX v).cpuMem = s.cpuMem := rfl
@[simp] theorem setScrollX_latch (s : State) (v : Byte) : (s.setScrollX v).latch = s.latch := rfl
@[simp] theorem setScrollX_scrollX (s : State) (v : Byte) : (s.setScrollX v).scrollX = v := rfl
@[simp] theorem setScrollX_scrollY (s : State) (v : Byte) : (s.setScrollX v).scrollY = s.scrollY := rfl
@[simp] theorem setScrollX_nameTableAddr (s : State) (v : Byte) : (s.setScrollX v).nameTableAddr = s.nameTableAddr := rfl
@[simp] theorem setScrollX_backgroundTableAddr (s : State) (v : Byte) : (s.setScrollX v).backgroundTableAddr = s.backgroundTableAddr := rfl
@[simp] theorem setScrollX_generateNmi (s : State) (v : Byte) : (s.setScrollX v).generateNmi = s.generateNmi := rfl
@[simp] theorem setScrollX_verticalBlank (s : State) (v : Byte) : (s.setScrollX v).verticalBlank = s.verticalBlank := rfl
@[simp] theorem setScrollX_ppuCycles (s : State) (v : Byte) : (s.setScrollX v).ppuCycles = s.ppuCycles := rfl
@[simp] theorem setScrollX_scanline (s : State) (v : Byte) : (s.setScrollX v).scanline = s.scanline := rfl
@[simp] theorem setScrollX_frameCount (s : State) (v : Byte) : (s.setScrollX v).frameCount = s.frameCount := rfl
@[simp] theorem setScrollX_ppuMem (s : State) (v : Byte) : (s.setScrollX v).ppuMem = s.ppuMem := rfl
@[simp] theorem setScrollX_screen (s : State) (v : Byte) : (s.setScrollX v).screen = s.screen := rfl
@[simp] theorem setScrollX_faultRecord (s : State) (v : Byte) : (s.setScrollX v).faultRecord = s.faultRecord := rfl
@[simp] theorem setScrollX_turns (s : State) (v : Byte) : (s.setScrollX v).turns = s.turns := rfl
@[simp] theorem setScrollX_cycle (s : State) (v : Byte) : (s.setScrollX v).cycle = s.cycle := rfl

@[simp] theorem setScrollY_a (s : State) (v : Byte) : (s.setScrollY v).a = s.a := rfl
@[simp] theorem setScrollY_x (s : State) (v : Byte) : (s.setScrollY v).x = s.x := rfl
@[simp] theorem setScrollY_y (s : State) (v : Byte) : (s.setScrollY v).y = s.y := rfl
@[simp] theorem setScrollY_sp (s : State) (v : Byte) : (s.setScrollY v).sp = s.sp := rfl
@[simp] theorem setScrollY_pc (s : State) (v : Byte) : (s.setScrollY v).pc = s.pc := rfl
@[simp] theorem setScrollY_p (s : State) (v : Byte) : (s.setScrollY v).p = s.p := rfl
@[simp] theorem setScrollY_cpuMem (s : State) (v : Byte) : (s.setScrollY v).cpuMem = s.cpuMem := rfl
@[simp] theorem setScrollY_latch (s : State) (v : Byte) : (s.setScrollY v).latch = s.latch := rfl
@[simp] theorem setScrollY_scrollX (s : State) (v : Byte) : (s.setScrollY v).scrollX = s.scrollX := rfl
@[simp] theorem setScrollY_scrollY (s : State) (v : Byte) : (s.setScrollY v).scrollY = v := rfl
@[simp] theorem setScrollY_nameTableAddr (s : State) (v : Byte) : (s.setScrollY v).nameTableAddr = s.nameTableAddr := rfl
@[simp] theorem setScrollY_backgroundTableAddr (s : State) (v : Byte) : (s.setScrollY v).backgroundTableAddr = s.backgroundTableAddr := rfl
@[simp] theorem setScrollY_generateNmi (s : State) (v : Byte) : (s.setScrollY v).generateNmi = s.generateNmi := rfl
@[simp] theorem setScrollY_verticalBlank (s : State) (v : Byte) : (s.setScrollY v).verticalBlank = s.verticalBlank := rfl
@[simp] theorem setScrollY_ppuCycles (s : State) (v : Byte) : (s.setScrollY v).ppuCycles = s.ppuCycles := rfl
@[simp] theorem setScrollY_scanline (s : State) (v : Byte) : (s.setScrollY v).scanline = s.scanline := rfl
@[simp] theorem setScrollY_frameCount (s : State) (v : Byte) : (s.setScrollY v).frameCount = s.frameCount := rfl
@[simp] theorem setScrollY_ppuMem (s : State) (v : Byte) : (s.setScrollY v).ppuMem = s.ppuMem := rfl
@[simp] theorem setScrollY_screen (s : State) (v : Byte) : (s.setScrollY v).screen = s.screen := rfl
@[simp] theorem setScrollY_faultRecord (s : State) (v : Byte) : (s.setScrollY v).faultRecord = s.faultRecord := rfl
@[simp] theorem setScrollY_turns (s : State) (v : Byte) : (s.setScrollY v).turns = s.turns := rfl
@[simp] theorem setScrollY_cycle (s : State) (v : Byte) : (s.setScrollY v).cycle = s.cycle := rfl

@[simp] theorem setNameTableAddr_a (s : State) (v : Word) : (s.setNameTableAddr v).a = s.a := rfl
@[simp] theorem setNameTableAddr_x (s : State) (v : Word) : (s.setNameTableAddr v).x = s.x := rfl
@[simp] theorem setNameTableAddr_y (s : State) (v : Word) : (s.setNameTableAddr v).y = s.y := rfl
@[simp] theorem setNameTableAddr_sp (s : State) (v : Word) : (s.setNameTableAddr v).sp = s.sp := rfl
@[simp] theorem setNameTableAddr_pc (s : State) (v : Word) : (s.setNameTableAddr v).pc = s.pc := rfl
@[simp] theorem setNameTableAddr_p (s : State) (v : Word) : (s.setNameTableAddr v).p = s.p := rfl
@[simp] theorem setNameTableAddr_cpuMem (s : State) (v : Word) : (s.setNameTableAddr v).cpuMem = s.cpuMem := rfl
@[simp] theorem setNameTableAddr_latch (s : State) (v : Word) : (s.setNameTableAddr v).latch = s.latch := rfl
@[simp] theorem setNameTableAddr_scrollX (s : State) (v : Word) : (s.setNameTableAddr v).scrollX = s.scrollX := rfl
@[simp] theorem setNameTableAddr_scrollY (s : State) (v : Word) : (s.setNameTableAddr v).scrollY = s.scrollY := rfl
@[simp] theorem setNameTableAddr_nameTableAddr (s : State) (v : Word) : (s.setNameTableAddr v).nameTableAddr = v := rfl
@[simp] theorem setNameTableAddr_backgroundTableAddr (s : State) (v : Word) : (s.setNameTableAddr v).backgroundTableAddr = s.backgroundTableAddr := rfl
@[simp] theorem setNameTableAddr_generateNmi (s : State) (v : Word) : (s.setNameTableAddr v).generateNmi = s.generateNmi := rfl
@[simp] theorem setNameTableAddr_verticalBlank (s : State) (v : Word) : (s.setNameTableAddr v).verticalBlank = s.verticalBlank := rfl
@[simp] theorem setNameTableAddr_ppuCycles (s : State) (v : Word) : (s.setNameTableAddr v).ppuCycles = s.ppuCycles := rfl
@[simp] theorem setNameTableAddr_scanline (s : State) (v : Word) : (s.setNameTableAddr v).scanline = s.scanline := rfl
@[simp] theorem setNameTableAddr_frameCount (s : State) (v : Word) : (s.setNameTableAddr v).frameCount = s.frameCount := rfl
@[simp] theorem setNameTableAddr_ppuMem (s : State) (v : Word) : (s.setNameTableAddr v).ppuMem = s.ppuMem := rfl
@[simp] theorem setNameTableAddr_screen (s : State) (v : Word) : (s.setNameTableAddr v).screen = s.screen := rfl
@[simp] theorem setNameTableAddr_faultRecord (s : State) (v : Word) : (s.setNameTableAddr v).faultRecord = s.faultRecord := rfl
@[simp] theorem setNameTableAddr_turns (s : State) (v : Word) : (s.setNameTableAddr v).turns = s.turns := rfl
@[simp] theorem setNameTableAddr_cycle (s : State) (v : Word) : (s.setNameTableAddr v).cycle = s.cycle := rfl

@[simp] theorem setBackgroundTableAddr_a (s : State) (v : Word) : (s.setBackgroundTableAddr v).a = s.a := rfl
@[simp] theorem setBackgroundTableAddr_x (s : State) (v : Word) : (s.setBackgroundTableAddr v).x = s.x := rfl
@[simp] theorem setBackgroundTableAddr_y (s : State) (v : Word) : (s.setBackgroundTableAddr v).y = s.y := rfl
@[simp] theorem setBackgroundTableAddr_sp (s : State) (v : Word) : (s.setBackgroundTableAddr v).sp = s.sp := rfl
@[simp] theorem setBackgroundTableAddr_pc (s : State) (v : Word) : (s.setBackgroundTableAddr v).pc = s.pc := rfl
@[simp] theorem setBackgroundTableAddr_p (s : State) (v : Word) : (s.setBackgroundTableAddr v).p = s.p := rfl
@[simp] theorem setBackgroundTableAddr_cpuMem (s : State) (v : Word) : (s.setBackgroundTableAddr v).cpuMem = s.cpuMem := rfl
@[simp] theorem setBackgroundTableAddr_latch (s : State) (v : Word) : (s.setBackgroundTableAddr v).latch = s.latch := rfl
@[simp] theorem setBackgroundTableAddr_scrollX (s : State) (v : Word) : (s.setBackgroundTableAddr v).scrollX = s.scrollX := rfl
@[simp] theorem setBackgroundTableAddr_scrollY (s : State) (v : Word) : (s.setBackgroundTableAddr v).scrollY = s.scrollY := rfl
@[simp] theorem setBackgroundTableAddr_nameTableAddr (s : State) (v : Word) : (s.setBackgroundTableAddr v).nameTableAddr = s.nameTableAddr := rfl
@[simp] theorem setBackgroundTableAddr_backgroundTableAddr (s : State) (v : Word) : (s.setBackgroundTableAddr v).backgroundTableAddr = v := rfl
@[simp] theorem setBackgroundTableAddr_generateNmi (s : State) (v : Word) : (s.setBackgroundTableAddr v).generateNmi = s.generateNmi := rfl
@[simp] theorem setBackgroundTableAddr_verticalBlank (s : State) (v : Word) : (s.setBackgroundTableAddr v).verticalBlank = s.verticalBlank := rfl
@[simp] theorem setBackgroundTableAddr_ppuCycles (s : State) (v : Word) : (s.setBackgroundTableAddr v).ppuCycles = s.ppuCycles := rfl
@[simp] theorem setBackgroundTableAddr_scanline (s : State) (v : Word) : (s.setBackgroundTableAddr v).scanline = s.scanline := rfl
@[simp] theorem setBackgroundTableAddr_frameCount (s : State) (v : Word) : (s.setBackgroundTableAddr v).frameCount = s.frameCount := rfl
@[simp] theorem setBackgroundTableAddr_ppuMem (s : State) (v : Word) : (s.setBackgroundTableAddr v).ppuMem = s.ppuMem := rfl
@[simp] theorem setBackgroundTableAddr_screen (s : State) (v : Word) : (s.setBackgroundTableAddr v).screen = s.screen := rfl
@[simp] theorem setBackgroundTableAddr_faultRecord (s : State) (v : Word) : (s.setBackgroundTableAddr v).faultRecord = s.faultRecord := rfl
@[simp] theorem setBackgroundTableAddr_turns (s : State) (v : Word) : (s.setBackgroundTableAddr v).turns = s.turns := rfl
@[simp] theorem setBackgroundTableAddr_cycle (s : State) (v : Word) : (s.setBackgroundTableAddr v).cycle = s.cycle := rfl

@[simp] theorem setGenerateNmi_a (s : State) (v : Bool) : (s.setGenerateNmi v).a = s.a := rfl
@[simp] theorem setGenerateNmi_x (s : State) (v : Bool) : (s.setGenerateNmi v).x = s.x := rfl
@[simp] theorem setGenerateNmi_y (s : State) (v : Bool) : (s.setGenerateNmi v).y = s.y := rfl
@[simp] theorem setGenerateNmi_sp (s : State) (v : Bool) : (s.setGenerateNmi v).sp = s.sp := rfl
@[simp] theorem setGenerateNmi_pc (s : State) (v : Bool) : (s.setGenerateNmi v).pc = s.pc := rfl
@[simp] theorem setGenerateNmi_p (s : State) (v : Bool) : (s.setGenerateNmi v).p = s.p := rfl
@[simp] theorem setGenerateNmi_cpuMem (s : State) (v : Bool) : (s.setGenerateNmi v).cpuMem = s.cpuMem := rfl
@[simp] theorem setGenerateNmi_latch (s : State) (v : Bool) : (s.setGenerateNmi v).latch = s.latch := rfl
@[simp] theorem setGenerateNmi_scrollX (s : State) (v : Bool) : (s.setGenerateNmi v).scrollX = s.scrollX := rfl
@[simp] theorem setGenerateNmi_scrollY (s : State) (v : Bool) : (s.setGenerateNmi v).scrollY = s.scrollY := rfl
@[simp] theorem setGenerateNmi_nameTableAddr (s : State) (v : Bool) : (s.setGenerateNmi v).nameTableAddr = s.nameTableAddr := rfl
@[simp] theorem setGenerateNmi_backgroundTableAddr (s : State) (v : Bool) : (s.setGenerateNmi v).backgroundTableAddr = s.backgroundTableAddr := rfl
@[simp] theorem setGenerateNmi_generateNmi (s : State) (v : Bool) : (s.setGenerateNmi v).generateNmi = v := rfl
@[simp] theorem setGenerateNmi_verticalBlank (s : State) (v : Bool) : (s.setGenerateNmi v).verticalBlank = s.verticalBlank := rfl
@[simp] theorem setGenerateNmi_ppuCycles (s : State) (v : Bool) : (s.setGenerateNmi v).ppuCycles = s.ppuCycles := rfl
@[simp] theorem setGenerateNmi_scanline (s : State) (v : Bool) : (s.setGenerateNmi v).scanline = s.scanline := rfl
@[simp] theorem setGenerateNmi_frameCount (s : State) (v : Bool) : (s.setGenerateNmi v).frameCount = s.frameCount := rfl
@[simp] theorem setGenerateNmi_ppuMem (s : State) (v : Bool) : (s.setGenerateNmi v).ppuMem = s.ppuMem := rfl
@[simp] theorem setGenerateNmi_screen (s : State) (v : Bool) : (s.setGenerateNmi v).screen = s.screen := rfl
@[simp] theorem setGenerateNmi_faultRecord (s : State) (v : Bool) : (s.setGenerateNmi v).faultRecord = s.faultRecord := rfl
@[simp] theorem setGenerateNmi_turns (s : State) (v : Bool) : (s.setGenerateNmi v).turns = s.turns := rfl
@[simp] theorem setGenerateNmi_cycle (s : State) (v : Bool) : (s.setGenerateNmi v).cycle = s.cycle := rfl

@[simp] theorem setVerticalBlank_a (s : State) (v : Bool) : (s.setVerticalBlank v).a = s.a := rfl
@[simp] theorem setVerticalBlank_x (s : State) (v : Bool) : (s.setVerticalBlank v).x = s.x := rfl
@[simp] theorem setVerticalBlank_y (s : State) (v : Bool) : (s.setVerticalBlank v).y = s.y := rfl
@[simp] theorem setVerticalBlank_sp (s : State) (v : Bool) : (s.setVerticalBlank v).sp = s.sp := rfl
@[simp] theorem setVerticalBlank_pc (s : State) (v : Bool) : (s.setVerticalBlank v).pc = s.pc := rfl
@[simp] theorem setVerticalBlank_p (s : State) (v : Bool) : (s.setVerticalBlank v).p = s.p := rfl
@[simp] theorem setVerticalBlank_cpuMem (s : State) (v : Bool) : (s.setVerticalBlank v).cpuMem = s.cpuMem := rfl
@[simp] theorem setVerticalBlank_latch (s : State) (v : Bool) : (s.setVerticalBlank v).latch = s.latch := rfl
@[simp] theorem setVerticalBlank_scrollX (s : State) (v : Bool) : (s.setVerticalBlank v).scrollX = s.scrollX := rfl
@[simp] theorem setVerticalBlank_scrollY (s : State) (v : Bool) : (s.setVerticalBlank v).scrollY = s.scrollY := rfl
@[simp] theorem setVerticalBlank_nameTableAddr (s : State) (v : Bool) : (s.setVerticalBlank v).nameTableAddr = s.nameTableAddr := rfl
@[simp] theorem setVerticalBlank_backgroundTableAddr (s : State) (v : Bool) : (s.setVerticalBlank v).backgroundTableAddr = s.backgroundTableAddr := rfl
@[simp] theorem setVerticalBlank_generateNmi (s : State) (v : Bool) : (s.setVerticalBlank v).generateNmi = s.generateNmi := rfl
@[simp] theorem setVerticalBlank_verticalBlank (s : State) (v : Bool) : (s.setVerticalBlank v).verticalBlank = v := rfl
@[simp] theorem setVerticalBlank_ppuCycles (s : State) (v : Bool) : (s.setVerticalBlank v).ppuCycles = s.ppuCycles := rfl
@[simp] theorem setVerticalBlank_scanline (s : State) (v : Bool) : (s.setVerticalBlank v).scanline = s.scanline := rfl
@[simp] theorem setVerticalBlank_frameCount (s : State) (v : Bool) : (s.setVerticalBlank v).frameCount = s.frameCount := rfl
@[simp] theorem setVerticalBlank_ppuMem (s : State) (v : Bool) : (s.setVerticalBlank v).ppuMem = s.ppuMem := rfl
@[simp] theorem setVerticalBlank_screen (s : State) (v : Bool) : (s.setVerticalBlank v).screen = s.screen := rfl
@[simp] theorem setVerticalBlank_faultRecord (s : State) (v : Bool) : (s.setVerticalBlank v).faultRecord = s.faultRecord := rfl
@[simp] theorem setVerticalBlank_turns (s : State) (v : Bool) : (s.setVerticalBlank v).turns = s.turns := rfl
@[simp] theorem setVerticalBlank_cycle (s : State) (v : Bool) : (s.setVerticalBlank v).cycle = s.cycle := rfl

@[simp] theorem setPpuCycles_a (s : State) (v : Fin 341) : (s.setPpuCycles v).a = s.a := rfl
@[simp] theorem setPpuCycles_x (s : State) (v : Fin 341) : (s.setPpuCycles v).x = s.x := rfl
@[simp] theorem setPpuCycles_y (s : State) (v : Fin 341) : (s.setPpuCycles v).y = s.y := rfl
@[simp] theorem setPpuCycles_sp (s : State) (v : Fin 341) : (s.setPpuCycles v).sp = s.sp := rfl
@[simp] theorem setPpuCycles_pc (s : State) (v : Fin 341) : (s.setPpuCycles v).pc = s.pc := rfl
@[simp] theorem setPpuCycles_p (s : State) (v : Fin 341) : (s.setPpuCycles v).p = s.p := rfl
@[simp] theorem setPpuCycles_cpuMem (s : State) (v : Fin 341) : (s.setPpuCycles v).cpuMem = s.cpuMem := rfl
@[simp] theorem setPpuCycles_latch (s : State) (v : Fin 341) : (s.setPpuCycles v).latch = s.latch := rfl
@[simp] theorem setPpuCycles_scrollX (s : State) (v : Fin 341) : (s.setPpuCycles v).scrollX = s.scrollX := rfl
@[simp] theorem setPpuCycles_scrollY (s : State) (v : Fin 341) : (s.setPpuCycles v).scrollY = s.scrollY := rfl
@[simp] theorem setPpuCycles_nameTableAddr (s : State) (v : Fin 341) : (s.setPpuCycles v).nameTableAddr = s.nameTableAddr := rfl
@[simp] theorem setPpuCycles_backgroundTableAddr (s : State) (v : Fin 341) : (s.setPpuCycles v).backgroundTableAddr = s.backgroundTableAddr := rfl
@[simp] theorem setPpuCycles_generateNmi (s : State) (v : Fin 341) : (s.setPpuCycles v).generateNmi = s.generateNmi := rfl
@[simp] theorem setPpuCycles_verticalBlank (s : State) (v : Fin 341) : (s.setPpuCycles v).verticalBlank = s.verticalBlank := rfl
@[simp] theorem setPpuCycles_ppuCycles (s : State) (v : Fin 341) : (s.setPpuCycles v).ppuCycles = v := rfl
@[simp] theorem setPpuCycles_scanline (s : State) (v : Fin 341) : (s.setPpuCycles v).scanline = s.scanline := rfl
@[simp] theorem setPpuCycles_frameCount (s : State) (v : Fin 341) : (s.setPpuCycles v).frameCount = s.frameCount := rfl
@[simp] theorem setPpuCycles_ppuMem (s : State) (v : Fin 341) : (s.setPpuCycles v).ppuMem = s.ppuMem := rfl
@[simp] theorem setPpuCycles_screen (s : State) (v : Fin 341) : (s.setPpuCycles v).screen = s.screen := rfl
@[simp] theorem setPpuCycles_faultRecord (s : State) (v : Fin 341) : (s.setPpuCycles v).faultRecord = s.faultRecord := rfl
@[simp] theorem setPpuCycles_turns (s : State) (v : Fin 341) : (s.setPpuCycles v).turns = s.turns := rfl
@[simp] theorem setPpuCycles_cycle (s : State) (v : Fin 341) : (s.setPpuCycles v).cycle = s.cycle := rfl

@[simp] theorem setScanline_a (s : State) (v : Nat) : (s.setScanline v).a = s.a := rfl
@[simp] theorem setScanline_x (s : State) (v : Nat) : (s.setScanline v).x = s.x := rfl
@[simp] theorem setScanline_y (s : State) (v : Nat) : (s.setScanline v).y = s.y := rfl
@[simp] theorem setScanline_sp (s : State) (v : Nat) : (s.setScanline v).sp = s.sp := rfl
@[simp] theorem setScanline_pc (s : State) (v : Nat) : (s.setScanline v).pc = s.pc := rfl
@[simp] theorem setScanline_p (s : State) (v : Nat) : (s.setScanline v).p = s.p := rfl
@[simp] theorem setScanline_cpuMem (s : State) (v : Nat) : (s.setScanline v).cpuMem = s.cpuMem := rfl
@[simp] theorem setScanline_latch (s : State) (v : Nat) : (s.setScanline v).latch = s.latch := rfl
@[simp] theorem setScanline_scrollX (s : State) (v : Nat) : (s.setScanline v).scrollX = s.scrollX := rfl
@[simp] theorem setScanline_scrollY (s : State) (v : Nat) : (s.setScanline v).scrollY = s.scrollY := rfl
@[simp] theorem setScanline_nameTableAddr (s : State) (v : Nat) : (s.setScanline v).nameTableAddr = s.nameTableAddr := rfl
@[simp] theorem setScanline_backgroundTableAddr (s : State) (v : Nat) : (s.setScanline v).backgroundTableAddr = s.backgroundTableAddr := rfl
@[simp] theorem setScanline_generateNmi (s : State) (v : Nat) : (s.setScanline v).generateNmi = s.generateNmi := rfl
@[simp] theorem setScanline_verticalBlank (s : State) (v : Nat) : (s.setScanline v).verticalBlank = s.verticalBlank := rfl
@[simp] theorem setScanline_ppuCycles (s : State) (v : Nat) : (s.setScanline v).ppuCycles = s.ppuCycles := rfl
@[simp] theorem setScanline_scanline (s : State) (v : Nat) : (s.setScanline v).scanline = v := rfl
@[simp] theorem setScanline_frameCount (s : State) (v : Nat) : (s.setScanline v).frameCount = s.frameCount := rfl
@[simp] theorem setScanline_ppuMem (s : State) (v : Nat) : (s.setScanline v).ppuMem = s.ppuMem := rfl
@[simp] theorem setScanline_screen (s : State) (v : Nat) : (s.setScanline v).screen = s.screen := rfl
@[simp] theorem setScanline_faultRecord (s : State) (v : Nat) : (s.setScanline v).faultRecord = s.faultRecord := rfl
@[simp] theorem setScanline_turns (s : State) (v : Nat) : (s.setScanline v).turns = s.turns := rfl
@[simp] theorem setScanline_cycle (s : State) (v : Nat) : (s.setScanline v).cycle = s.cycle := rfl

@[simp] theorem setFrameCount_a (s : State) (v : Nat) : (s.setFrameCount v).a = s.a := rfl
@[simp] theorem setFrameCount_x (s : State) (v : Nat) : (s.setFrameCount v).x = s.x := rfl
@[simp] theorem setFrameCount_y (s : State) (v : Nat) : (s.setFrameCount v).y = s.y := rfl
@[simp] theorem setFrameCount_sp (s : State) (v : Nat) : (s.setFrameCount v).sp = s.sp := rfl
@[simp] theorem setFrameCount_pc (s : State) (v : Nat) : (s.setFrameCount v).pc = s.pc := rfl
@[simp] theorem setFrameCount_p (s : State) (v : Nat) : (s.setFrameCount v).p = s.p := rfl
@[simp] theorem setFrameCount_cpuMem (s : State) (v : Nat) : (s.setFrameCount v).cpuMem = s.cpuMem := rfl
@[simp] theorem setFrameCount_latch (s : State) (v : Nat) : (s.setFrameCount v).latch = s.latch := rfl
@[simp] theorem setFrameCount_scrollX (s : State) (v : Nat) : (s.setFrameCount v).scrollX = s.scrollX := rfl
@[simp] theorem setFrameCount_scrollY (s : State) (v : Nat) : (s.setFrameCount v).scrollY = s.scrollY := rfl
@[simp] theorem setFrameCount_nameTableAddr (s : State) (v : Nat) : (s.setFrameCount v).nameTableAddr = s.nameTableAddr := rfl
@[simp] theorem setFrameCount_backgroundTableAddr (s : State) (v : Nat) : (s.setFrameCount v).backgroundTableAddr = s.backgroundTableAddr := rfl
@[simp] theorem setFrameCount_generateNmi (s : State) (v : Nat) : (s.setFrameCount v).generateNmi = s.generateNmi := rfl
@[simp] theorem setFrameCount_verticalBlank (s : State) (v : Nat) : (s.setFrameCount v).verticalBlank = s.verticalBlank := rfl
@[simp] theorem setFrameCount_ppuCycles (s : State) (v : Nat) : (s.setFrameCount v).ppuCycles = s.ppuCycles := rfl
@[simp] theorem setFrameCount_scanline (s : State) (v : Nat) : (s.setFrameCount v).scanline = s.scanline := rfl
@[simp] theorem setFrameCount_frameCount (s : State) (v : Nat) : (s.setFrameCount v).frameCount = v := rfl
@[simp] theorem setFrameCount_ppuMem (s : State) (v : Nat) : (s.setFrameCount v).ppuMem = s.ppuMem := rfl
@[simp] theorem setFrameCount_screen (s : State) (v : Nat) : (s.setFrameCount v).screen = s.screen := rfl
@[simp] theorem setFrameCount_faultRecord (s : State) (v : Nat) : (s.setFrameCount v).faultRecord = s.faultRecord := rfl
@[simp] theorem setFrameCount_turns (s : State) (v : Nat) : (s.setFrameCount v).turns = s.turns := rfl
@[simp] theorem setFrameCount_cycle (s : State) (v : Nat) : (s.setFrameCount v).cycle = s.cycle := rfl

@[simp] theorem setPpuMem_a (s : State) (v : Memory) : (s.setPpuMem v).a = s.a := rfl
@[simp] theorem setPpuMem_x (s : State) (v : Memory) : (s.setPpuMem v).x = s.x := rfl
@[simp] theorem setPpuMem_y (s : State) (v : Memory) : (s.setPpuMem v).y = s.y := rfl
@[simp] theorem setPpuMem_sp (s : State) (v : Memory) : (s.setPpuMem v).sp = s.sp := rfl
@[simp] theorem setPpuMem_pc (s : State) (v : Memory) : (s.setPpuMem v).pc = s.pc := rfl
@[simp] theorem setPpuMem_p (s : State) (v : Memory) : (s.setPpuMem v).p = s.p := rfl
@[simp] theorem setPpuMem_cpuMem (s : State) (v : Memory) : (s.setPpuMem v).cpuMem = s.cpuMem := rfl
@[simp] theorem setPpuMem_latch (s : State) (v : Memory) : (s.setPpuMem v).latch = s.latch := rfl
@[simp] theorem setPpuMem_scrollX (s : State) (v : Memory) : (s.setPpuMem v).scrollX = s.scrollX := rfl
@[simp] theorem setPpuMem_scrollY (s : State) (v : Memory) : (s.setPpuMem v).scrollY = s.scrollY := rfl
@[simp] theorem setPpuMem_nameTableAddr (s : State) (v : Memory) : (s.setPpuMem v).nameTableAddr = s.nameTableAddr := rfl
@[simp] theorem setPpuMem_backgroundTableAddr (s : State) (v : Memory) : (s.setPpuMem v).backgroundTableAddr = s.backgroundTableAddr := rfl
@[simp] theorem setPpuMem_generateNmi (s : State) (v : Memory) : (s.setPpuMem v).generateNmi = s.generateNmi := rfl
@[simp] theorem setPpuMem_verticalBlank (s : State) (v : Memory) : (s.setPpuMem v).verticalBlank = s.verticalBlank := rfl
@[simp] theorem setPpuMem_ppuCycles (s : State) (v : Memory) : (s.setPpuMem v).ppuCycles = s.ppuCycles := rfl
@[simp] theorem setPpuMem_scanline (s : State) (v : Memory) : (s.setPpuMem v).scanline = s.scanline := rfl
@[simp] theorem setPpuMem_frameCount (s : State) (v : Memory) : (s.setPpuMem v).frameCount = s.frameCount := rfl
@[simp] theorem setPpuMem_ppuMem (s : State) (v : Memory) : (s.setPpuMem v).ppuMem = v := rfl
@[simp] theorem setPpuMem_screen (s : State) (v : Memory) : (s.setPpuMem v).screen = s.screen := rfl
@[simp] theorem setPpuMem_faultRecord (s : State) (v : Memory) : (s.setPpuMem v).faultRecord = s.faultRecord := rfl
@[simp] theorem setPpuMem_turns (s : State) (v : Memory) : (s.setPpuMem v).turns = s.turns := rfl
@[simp] theorem setPpuMem_cycle (s : State) (v : Memory) : (s.setPpuMem v).cycle = s.cycle := rfl

@[simp] theorem setScreen_a (s : State) (v : Framebuffer) : (s.setScreen v).a = s.a := rfl
@[simp] theorem setScreen_x (s : State) (v : Framebuffer) : (s.setScreen v).x = s.x := rfl
@[simp] theorem setScreen_y (s : State) (v : Framebuffer) : (s.setScreen v).y = s.y := rfl
@[simp] theorem setScreen_sp (s : State) (v : Framebuffer) : (s.setScreen v).sp = s.sp := rfl
@[simp] theorem setScreen_pc (s : State) (v : Framebuffer) : (s.setScreen v).pc = s.pc := rfl
@[simp] theorem setScreen_p (s : State) (v : Framebuffer) : (s.setScreen v).p = s.p := rfl
@[simp] theorem setScreen_cpuMem (s : State) (v : Framebuffer) : (s.setScreen v).cpuMem = s.cpuMem := rfl
@[simp] theorem setScreen_latch (s : State) (v : Framebuffer) : (s.setScreen v).latch = s.latch := rfl
@[simp] theorem setScreen_scrollX (s : State) (v : Framebuffer) : (s.setScreen v).scrollX = s.scrollX := rfl
@[simp] theorem setScreen_scrollY (s : State) (v : Framebuffer) : (s.setScreen v).scrollY = s.scrollY := rfl
@[simp] theorem setScreen_nameTableAddr (s : State) (v : Framebuffer) : (s.setScreen v).nameTableAddr = s.nameTableAddr := rfl
@[simp] theorem setScreen_backgroundTableAddr (s : State) (v : Framebuffer) : (s.setScreen v).backgroundTableAddr = s.backgroundTableAddr := rfl
@[simp] theorem setScreen_generateNmi (s : State) (v : Framebuffer) : (s.setScreen v).generateNmi = s.generateNmi := rfl
@[simp] theorem setScreen_verticalBlank (s : State) (v : Framebuffer) : (s.setScreen v).verticalBlank = s.verticalBlank := rfl
@[simp] theorem setScreen_ppuCycles (s : State) (v : Framebuffer) : (s.setScreen v).ppuCycles = s.ppuCycles := rfl
@[simp] theorem setScreen_scanline (s : State) (v : Framebuffer) : (s.setScreen v).scanline = s.scanline := rfl
@[simp] theorem setScreen_frameCount (s : State) (v : Framebuffer) : (s.setScreen v).frameCount = s.frameCount := rfl
@[simp] theorem setScreen_ppuMem (s : State) (v : Framebuffer) : (s.setScreen v).ppuMem = s.ppuMem := rfl
@[simp] theorem setScreen_screen (s : State) (v : Framebuffer) : (s.setScreen v).screen = v := rfl
@[simp] theorem setScreen_faultRecord (s : State) (v : Framebuffer) : (s.setScreen v).faultRecord = s.faultRecord := rfl
@[simp] theorem setScreen_turns (s : State) (v : Framebuffer) : (s.setScreen v).turns = s.turns := rfl
@[simp] theorem setScreen_cycle (s : State) (v : Framebuffer) : (s.setScreen v).cycle = s.cycle := rfl

@[simp] theorem setFaultRecord_a (s : State) (v : Option Fault) : (s.setFaultRecord v).a = s.a := rfl
@[simp] theorem setFaultRecord_x (s : State) (v : Option Fault) : (s.setFaultRecord v).x = s.x := rfl
@[simp] theorem setFaultRecord_y (s : State) (v : Option Fault) : (s.setFaultRecord v).y = s.y := rfl
@[simp] theorem setFaultRecord_sp (s : State) (v : Option Fault) : (s.setFaultRecord v).sp = s.sp := rfl
@[simp] theorem setFaultRecord_pc (s : State) (v : Option Fault) : (s.setFaultRecord v).pc = s.pc := rfl
@[simp] theorem setFaultRecord_p (s : State) (v : Option Fault) : (s.setFaultRecord v).p = s.p := rfl
@[simp] theorem setFaultRecord_cpuMem (s : State) (v : Option Fault) : (s.setFaultRecord v).cpuMem = s.cpuMem := rfl
@[simp] theorem setFaultRecord_latch (s : State) (v : Option Fault) : (s.setFaultRecord v).latch = s.latch := rfl
@[simp] theorem setFaultRecord_scrollX (s : State) (v : Option Fault) : (s.setFaultRecord v).scrollX = s.scrollX := rfl
@[simp] theorem setFaultRecord_scrollY (s : State) (v : Option Fault) : (s.setFaultRecord v).scrollY = s.scrollY := rfl
@[simp] theorem setFaultRecord_nameTableAddr (s : State) (v : Option Fault) : (s.setFaultRecord v).nameTableAddr = s.nameTableAddr := rfl
@[simp] theorem setFaultRecord_backgroundTableAddr (s : State) (v : Option Fault) : (s.setFaultRecord v).backgroundTableAddr = s.backgroundTableAddr := rfl
@[simp] theorem setFaultRecord_generateNmi (s : State) (v : Option Fault) : (s.setFaultRecord v).generateNmi = s.generateNmi := rfl
@[simp] theorem setFaultRecord_verticalBlank (s : State) (v : Option Fault) : (s.setFaultRecord v).verticalBlank = s.verticalBlank := rfl
@[simp] theorem setFaultRecord_ppuCycles (s : State) (v : Option Fault) : (s.setFaultRecord v).ppuCycles = s.ppuCycles := rfl
@[simp] theorem setFaultRecord_scanline (s : State) (v : Option Fault) : (s.setFaultRecord v).scanline = s.scanline := rfl
@[simp] theorem setFaultRecord_frameCount (s : State) (v : Option Fault) : (s.setFaultRecord v).frameCount = s.frameCount := rfl
@[simp] theorem setFaultRecord_ppuMem (s : State) (v : Option Fault) : (s.setFaultRecord v).ppuMem = s.ppuMem := rfl
@[simp] theorem setFaultRecord_screen (s : State) (v : Option Fault) : (s.setFaultRecord v).screen = s.screen := rfl
@[simp] theorem setFaultRecord_faultRecord (s : State) (v : Option Fault) : (s.setFaultRecord v).faultRecord = v := rfl
@[simp] theorem setFaultRecord_turns (s : State) (v : Option Fault) : (s.setFaultRecord v).turns = s.turns := rfl
@[simp] theorem setFaultRecord_cycle (s : State) (v : Option Fault) : (s.setFaultRecord v).cycle = s.cycle := rfl

@[simp] theorem setTurns_a (s : State) (v : List Turn) : (s.setTurns v).a = s.a := rfl
@[simp] theorem setTurns_x (s : State) (v : List Turn) : (s.setTurns v).x = s.x := rfl
@[simp] theorem setTurns_y (s : State) (v : List Turn) : (s.setTurns v).y = s.y := rfl
@[simp] theorem setTurns_sp (s : State) (v : List Turn) : (s.setTurns v).sp = s.sp := rfl
@[simp] theorem setTurns_pc (s : State) (v : List Turn) : (s.setTurns v).pc = s.pc := rfl
@[simp] theorem setTurns_p (s : State) (v : List Turn) : (s.setTurns v).p = s.p := rfl
@[simp] theorem setTurns_cpuMem (s : State) (v : List Turn) : (s.setTurns v).cpuMem = s.cpuMem := rfl
@[simp] theorem setTurns_latch (s : State) (v : List Turn) : (s.setTurns v).latch = s.latch := rfl
@[simp] theorem setTurns_scrollX (s : State) (v : List Turn) : (s.setTurns v).scrollX = s.scrollX := rfl
@[simp] theorem setTurns_scrollY (s : State) (v : List Turn) : (s.setTurns v).scrollY = s.scrollY := rfl
@[simp] theorem setTurns_nameTableAddr (s : State) (v : List Turn) : (s.setTurns v).nameTableAddr = s.nameTableAddr := rfl
@[simp] theorem setTurns_backgroundTableAddr (s : State) (v : List Turn) : (s.setTurns v).backgroundTableAddr = s.backgroundTableAddr := rfl
@[simp] theorem setTurns_generateNmi (s : State) (v : List Turn) : (s.setTurns v).generateNmi = s.generateNmi := rfl
@[simp] theorem setTurns_verticalBlank (s : State) (v : List Turn) : (s.setTurns v).verticalBlank = s.verticalBlank := rfl
@[simp] theorem setTurns_ppuCycles (s : State) (v : List Turn) : (s.setTurns v).ppuCycles = s.ppuCycles := rfl
@[simp] theorem setTurns_scanline (s : State) (v : List Turn) : (s.setTurns v).scanline = s.scanline := rfl
@[simp] theorem setTurns_frameCount (s : State) (v : List Turn) : (s.setTurns v).frameCount = s.frameCount := rfl
@[simp] theorem setTurns_ppuMem (s : State) (v : List Turn) : (s.setTurns v).ppuMem = s.ppuMem := rfl
@[simp] theorem setTurns_screen (s : State) (v : List Turn) : (s.setTurns v).screen = s.screen := rfl
@[simp] theorem setTurns_faultRecord (s : State) (v : List Turn) : (s.setTurns v).faultRecord = s.faultRecord := rfl
@[simp] theorem setTurns_turns (s : State) (v : List Turn) : (s.setTurns v).turns = v := rfl
@[simp] theorem setTurns_cycle (s : State) (v : List Turn) : (s.setTurns v).cycle = s.cycle := rfl

@[simp] theorem setCycle_a (s : State) (v : List Turn) : (s.setCycle v).a = s.a := rfl
@[simp] theorem setCycle_x (s : State) (v : List Turn) : (s.setCycle v).x = s.x := rfl
@[simp] theorem setCycle_y (s : State) (v : List Turn) : (s.setCycle v).y = s.y := rfl
@[simp] theorem setCycle_sp (s : State) (v : List Turn) : (s.setCycle v).sp = s.sp := rfl
@[simp] theorem setCycle_pc (s : State) (v : List Turn) : (s.setCycle v).pc = s.pc := rfl
@[simp] theorem setCycle_p (s : State) (v : List Turn) : (s.setCycle v).p = s.p := rfl
@[simp] theorem setCycle_cpuMem (s : State) (v : List Turn) : (s.setCycle v).cpuMem = s.cpuMem := rfl
@[simp] theorem setCycle_latch (s : State) (v : List Turn) : (s.setCycle v).latch = s.latch := rfl
@[simp] theorem setCycle_scrollX (s : State) (v : List Turn) : (s.setCycle v).scrollX = s.scrollX := rfl
@[simp] theorem setCycle_scrollY (s : State) (v : List Turn) : (s.setCycle v).scrollY = s.scrollY := rfl
@[simp] theorem setCycle_nameTableAddr (s : State) (v : List Turn) : (s.setCycle v).nameTableAddr = s.nameTableAddr := rfl
@[simp] theorem setCycle_backgroundTableAddr (s : State) (v : List Turn) : (s.setCycle v).backgroundTableAddr = s.backgroundTableAddr := rfl
@[simp] theorem setCycle_generateNmi (s : State) (v : List Turn) : (s.setCycle v).generateNmi = s.generateNmi := rfl
@[simp] theorem setCycle_verticalBlank (s : State) (v : List Turn) : (s.setCycle v).verticalBlank = s.verticalBlank := rfl
@[simp] theorem setCycle_ppuCycles (s : State) (v : List Turn) : (s.setCycle v).ppuCycles = s.ppuCycles := rfl
@[simp] theorem setCycle_scanline (s : State) (v : List Turn) : (s.setCycle v).scanline = s.scanline := rfl
@[simp] theorem setCycle_frameCount (s : State) (v : List Turn) : (s.setCycle v).frameCount = s.frameCount := rfl
@[simp] theorem setCycle_ppuMem (s : State) (v : List Turn) : (s.setCycle v).ppuMem = s.ppuMem := rfl
@[simp] theorem setCycle_screen (s : State) (v : List Turn) : (s.setCycle v).screen = s.screen := rfl
@[simp] theorem setCycle_faultRecord (s : State) (v : List Turn) : (s.setCycle v).faultRecord = s.faultRecord := rfl
@[simp] theorem setCycle_turns (s : State) (v : List Turn) : (s.setCycle v).turns = s.turns := rfl
@[simp] theorem setCycle_cycle (s : State) (v : List Turn) : (s.setCycle v).cycle = v := rfl

@[simp] theorem writeCpu_a (s : State) (addr : Word) (v : Byte) : (s.writeCpu addr v).a = s.a := rfl
@[simp] theorem writeCpu_x (s : State) (addr : Word) (v : Byte) : (s.writeCpu addr v).x = s.x := rfl
@[simp] theorem writeCpu_y (s : State) (addr : Word) (v : Byte) : (s.writeCpu addr v).y = s.y := rfl
@[simp] theorem writeCpu_sp (s : State) (addr : Word) (v : Byte) : (s.writeCpu addr v).sp = s.sp := rfl
@[simp] theorem writeCpu_pc (s : State) (addr : Word) (v : Byte) : (s.writeCpu addr v).pc = s.pc := rfl
@[simp] theorem writeCpu_p (s : State) (addr : Word) (v : Byte) : (s.writeCpu addr v).p = s.p := rfl
@[simp] theorem writeCpu_cpuMem (s : State) (addr : Word) (v : Byte) : (s.writeCpu addr v).cpuMem = s.cpuMem.write addr v := rfl
@[simp] theorem writeCpu_latch (s : State) (addr : Word) (v : Byte) : (s.writeCpu addr v).latch = s.latch := rfl
@[simp] theorem writeCpu_scrollX (s : State) (addr : Word) (v : Byte) : (s.writeCpu addr v).scrollX = s.scrollX := rfl
@[simp] theorem writeCpu_scrollY (s : State) (addr : Word) (v : Byte) : (s.writeCpu addr v).scrollY = s.scrollY := rfl
@[simp] theorem writeCpu_nameTableAddr (s : State) (addr : Word) (v : Byte) : (s.writeCpu addr v).nameTableAddr = s.nameTableAddr := rfl
@[simp] theorem writeCpu_backgroundTableAddr (s : State) (addr : Word) (v : Byte) : (s.writeCpu addr v).backgroundTableAddr = s.backgroundTableAddr := rfl
@[simp] theorem writeCpu_generateNmi (s : State) (addr : Word) (v : Byte) : (s.writeCpu addr v).generateNmi = s.generateNmi := rfl
@[simp] theorem writeCpu_verticalBlank (s : State) (addr : Word) (v : Byte) : (s.writeCpu addr v).verticalBlank = s.verticalBlank := rfl
@[simp] theorem writeCpu_ppuCycles (s : State) (addr : Word) (v : Byte) : (s.writeCpu addr v).ppuCycles = s.ppuCycles := rfl
@[simp] theorem writeCpu_scanline (s : State) (addr : Word) (v : Byte) : (s.writeCpu addr v).scanline = s.scanline := rfl
@[simp] theorem writeCpu_frameCount (s : State) (addr : Word) (v : Byte) : (s.writeCpu addr v).frameCount = s.frameCount := rfl
@[simp] theorem writeCpu_ppuMem (s : State) (addr : Word) (v : Byte) : (s.writeCpu addr v).ppuMem = s.ppuMem := rfl
@[simp] theorem writeCpu_screen (s : State) (addr : Word) (v : Byte) : (s.writeCpu addr v).screen = s.screen := rfl
@[simp] theorem writeCpu_faultRecord (s : State) (addr : Word) (v : Byte) : (s.writeCpu addr v).faultRecord = s.faultRecord := rfl
@[simp] theorem writeCpu_turns (s : State) (addr : Word) (v : Byte) : (s.writeCpu addr v).turns = s.turns := rfl
@[simp] theorem writeCpu_cycle (s : State) (addr : Word) (v : Byte) : (s.writeCpu addr v).cycle = s.cycle := rfl

end Sys2Proof.Machine
end

