-- ==== Sys2Proof/Laws/Memory.lean ====
section
/-! SUPPORT. What reading and writing cells does: read after write, everything else unchanged, the canonical form kept,
and canonical memories equal when they read equal. -/

namespace Sys2Proof.Machine

variable {α : Type}

/-! ## Lists of cells -/

theorem lookupCell_insertCell (m : List (Nat × α)) (n k : Nat) (v : α) :
    lookupCell (insertCell m n v) k = if k = n then some v else lookupCell m k := by
  induction m with
  | nil => simp only [insertCell, lookupCell, eq_comm]
  | cons c rest ih =>
    obtain ⟨j, w⟩ := c
    simp only [insertCell]
    split_ifs <;> simp only [lookupCell, ih] <;> split_ifs <;> first | rfl | omega

theorem lookupCell_eraseCell (m : List (Nat × α)) (n k : Nat) :
    lookupCell (eraseCell m n) k = if k = n then none else lookupCell m k := by
  induction m with
  | nil => simp only [eraseCell, lookupCell, ite_self]
  | cons c rest ih =>
    obtain ⟨j, w⟩ := c
    simp only [eraseCell]
    split_ifs <;> simp only [lookupCell, ih] <;> split_ifs <;> first | rfl | omega

theorem mem_insertCell {m : List (Nat × α)} {n : Nat} {v : α} {c : Nat × α} (h : c ∈ insertCell m n v) :
    c = (n, v) ∨ c ∈ m := by
  induction m with
  | nil => exact .inl (List.mem_singleton.mp h)
  | cons d rest ih =>
    obtain ⟨j, w⟩ := d
    simp only [insertCell] at h
    split_ifs at h
    · exact List.mem_cons.mp h
    · exact (List.mem_cons.mp h).imp_right (List.mem_cons_of_mem _)
    · rcases List.mem_cons.mp h with rfl | h
      · exact .inr List.mem_cons_self
      · exact (ih h).imp_right (List.mem_cons_of_mem _)

theorem mem_of_mem_eraseCell {m : List (Nat × α)} {n : Nat} {c : Nat × α} (h : c ∈ eraseCell m n) : c ∈ m := by
  induction m with
  | nil => exact h
  | cons d rest ih =>
    obtain ⟨j, w⟩ := d
    simp only [eraseCell] at h
    split_ifs at h
    · exact List.mem_cons_of_mem _ (ih h)
    · rcases List.mem_cons.mp h with rfl | h
      · exact List.mem_cons_self
      · exact List.mem_cons_of_mem _ (ih h)

theorem keysRise_insertCell {m : List (Nat × α)} (h : keysRise m) (n : Nat) (v : α) :
    keysRise (insertCell m n v) := by
  induction m with
  | nil => exact List.pairwise_singleton _ _
  | cons d rest ih =>
    obtain ⟨j, w⟩ := d
    obtain ⟨hd, hr⟩ := List.pairwise_cons.mp h
    simp only [insertCell]
    split_ifs with h1 h2
    · refine List.pairwise_cons.mpr ⟨fun c hc => ?_, h⟩
      rcases List.mem_cons.mp hc with rfl | hc
      · exact h1
      · exact h1.trans (hd c hc)
    · subst h2
      exact List.pairwise_cons.mpr ⟨hd, hr⟩
    · refine List.pairwise_cons.mpr ⟨fun c hc => ?_, ih hr⟩
      rcases mem_insertCell hc with rfl | hc
      · show j < n
        omega
      · exact hd c hc

theorem keysRise_eraseCell {m : List (Nat × α)} (h : keysRise m) (n : Nat) : keysRise (eraseCell m n) := by
  induction m with
  | nil => exact h
  | cons d rest ih =>
    obtain ⟨j, w⟩ := d
    obtain ⟨hd, hr⟩ := List.pairwise_cons.mp h
    simp only [eraseCell]
    split_ifs
    · exact ih hr
    · exact List.pairwise_cons.mpr ⟨fun c hc => hd c (mem_of_mem_eraseCell hc), ih hr⟩

/-- A key below every key of a rising list is not listed. -/
theorem lookupCell_eq_none {m : List (Nat × α)} {n : Nat} (h : ∀ c ∈ m, n < c.1) : lookupCell m n = none := by
  induction m with
  | nil => rfl
  | cons d rest ih =>
    obtain ⟨j, w⟩ := d
    have hj : n < j := h (j, w) List.mem_cons_self
    simp only [lookupCell, if_neg (show ¬ j = n by omega)]
    exact ih fun c hc => h c (List.mem_cons_of_mem _ hc)

/-- Two lists with rising keys that hold the same value under every key are the same list. -/
theorem keysRise_ext {m₁ m₂ : List (Nat × α)} (h₁ : keysRise m₁) (h₂ : keysRise m₂)
    (h : ∀ n, lookupCell m₁ n = lookupCell m₂ n) : m₁ = m₂ := by
  induction m₁ generalizing m₂ with
  | nil =>
    cases m₂ with
    | nil => rfl
    | cons d rest => simpa [lookupCell] using h d.1
  | cons d rest ih =>
    obtain ⟨j, w⟩ := d
    obtain ⟨hd, hr⟩ := List.pairwise_cons.mp h₁
    cases m₂ with
    | nil => simpa [lookupCell] using h j
    | cons e rest' =>
      obtain ⟨k, u⟩ := e
      obtain ⟨he, hr'⟩ := List.pairwise_cons.mp h₂
      have hjk : j = k := by
        by_contra hne
        rcases Nat.lt_or_gt_of_ne hne with hlt | hgt
        · have hn := lookupCell_eq_none (m := rest') (n := j) fun c hc => hlt.trans (he c hc)
          have hj := h j
          simp [lookupCell, Ne.symm hne, hn] at hj
        · have hn := lookupCell_eq_none (m := rest) (n := k) fun c hc => Nat.lt_trans hgt (hd c hc)
          have hk := h k
          simp [lookupCell, hne, hn] at hk
      subst hjk
      have hw : w = u := by simpa [lookupCell] using h j
      subst hw
      congr 1
      refine ih hr hr' fun n => ?_
      by_cases hn : j = n
      · subst hn
        rw [lookupCell_eq_none hd, lookupCell_eq_none he]
      · simpa [lookupCell, hn] using h n

/-! ## Byte memories -/

theorem read_write (m : Memory) (addr k : Word) (v : Byte) :
    (m.write addr v).read k = if k = addr then v else m.read k := by
  have hk : k.toNat = addr.toNat ↔ k = addr := BitVec.toNat_inj
  simp only [Memory.write, Memory.read]
  split_ifs with h1 h2 h2
  · simp [lookupCell_eraseCell, h2, h1]
  · simp [lookupCell_eraseCell, hk, h2]
  · simp [lookupCell_insertCell, h2]
  · simp [lookupCell_insertCell, hk, h2]

@[simp] theorem read_write_same (m : Memory) (addr : Word) (v : Byte) : (m.write addr v).read addr = v := by
  simp [read_write]

theorem read_write_other (m : Memory) {addr k : Word} (v : Byte) (h : k ≠ addr) :
    (m.write addr v).read k = m.read k := by
  simp [read_write, h]

/-- Writing a byte keeps the canonical form. -/
theorem write_wf {m : Memory} (h : m.wf) (addr : Word) (v : Byte) : (m.write addr v).wf := by
  simp only [Memory.write]
  split_ifs with hv
  · exact ⟨keysRise_eraseCell h.1 _, fun c hc => h.2 c (mem_of_mem_eraseCell hc)⟩
  · refine ⟨keysRise_insertCell h.1 _ _, fun c hc => ?_⟩
    rcases mem_insertCell hc with rfl | hc
    · exact ⟨addr.isLt, hv⟩
    · exact h.2 c hc

/-- A memory with nothing listed is in canonical form. -/
theorem nil_wf : Memory.wf [] := ⟨List.Pairwise.nil, fun _ h => nomatch h⟩

/-- What a canonical memory lists under an address. -/
theorem lookupCell_of_wf {m : Memory} (h : m.wf) (n : Nat) (hn : n < 65536) :
    lookupCell m n =
      if m.read (BitVec.ofNat 16 n) = unlistedByte then none else some (m.read (BitVec.ofNat 16 n)) := by
  have ht : (BitVec.ofNat 16 n).toNat = n := by simp only [BitVec.toNat_ofNat]; omega
  have hmem : ∀ b, lookupCell m n = some b → b ≠ unlistedByte := by
    intro b hb
    have hin : (n, b) ∈ m := by
      clear h hn ht
      induction m with
      | nil => simp [lookupCell] at hb
      | cons d rest ih =>
        obtain ⟨j, w⟩ := d
        simp only [lookupCell] at hb
        split_ifs at hb with hj
        · subst hj
          cases hb
          exact List.mem_cons_self
        · exact List.mem_cons_of_mem _ (ih hb)
    exact (h.2 _ hin).2
  simp only [Memory.read, ht]
  cases hl : lookupCell m n with
  | none => simp
  | some b => simp [hmem b hl]

/-- Canonical memories that read the same at every address are equal data. -/
theorem wf_ext {m₁ m₂ : Memory} (h₁ : m₁.wf) (h₂ : m₂.wf) (h : ∀ addr, m₁.read addr = m₂.read addr) : m₁ = m₂ := by
  have big : ∀ {m : Memory}, m.wf → ∀ n, ¬ n < 65536 → lookupCell m n = none := by
    intro m hm n hn
    replace hm := hm.2
    induction m with
    | nil => rfl
    | cons d rest ih =>
      obtain ⟨j, w⟩ := d
      have hj : j < 65536 := (hm (j, w) List.mem_cons_self).1
      simp only [lookupCell, if_neg (show ¬ j = n by omega)]
      exact ih fun c hc => hm c (List.mem_cons_of_mem _ hc)
  refine keysRise_ext h₁.1 h₂.1 fun n => ?_
  by_cases hn : n < 65536
  · rw [lookupCell_of_wf h₁ n hn, lookupCell_of_wf h₂ n hn, h]
  · rw [big h₁ n hn, big h₂ n hn]

/-! ## CPU memory of a state -/

theorem readCpu_writeCpu (s : State) (addr k : Word) (v : Byte) :
    (s.writeCpu addr v).readCpu k = if k = addr then v else s.readCpu k := read_write _ _ _ _

@[simp] theorem readCpu_writeCpu_same (s : State) (addr : Word) (v : Byte) : (s.writeCpu addr v).readCpu addr = v :=
  read_write_same _ _ _

theorem readCpu_writeCpu_other (s : State) {addr k : Word} (v : Byte) (h : k ≠ addr) :
    (s.writeCpu addr v).readCpu k = s.readCpu k := read_write_other _ _ h

/-! ## The framebuffer -/

theorem cellNumber_inj {x y x' y' : Nat} (hx : x < 256) (hx' : x' < 256) :
    cellNumber x y = cellNumber x' y' ↔ x = x' ∧ y = y' := by
  simp only [cellNumber]
  omega

theorem screen_read_write (m : Framebuffer) {x y x' y' : Nat} (hx : x < 256) (hx' : x' < 256) (v : Rgb) :
    (m.write x y v).read x' y' = if x' = x ∧ y' = y then v else m.read x' y' := by
  simp only [Framebuffer.write, Framebuffer.read, lookupCell_insertCell, cellNumber_inj hx' hx]
  split_ifs <;> rfl

/-- A cell nothing has written holds its launch value (R46). -/
@[simp] theorem screen_read_nil (x y : Nat) : Framebuffer.read [] x y = Config.launchPixel (cellNumber x y) := rfl

/-- Writing a pixel of the framebuffer keeps the canonical form. -/
theorem screen_write_wf {m : Framebuffer} (h : m.wf) {x y : Nat} (hx : x < 256) (hy : y < 240) (v : Rgb) :
    (m.write x y v).wf := by
  refine ⟨keysRise_insertCell h.1 _ _, fun c hc => ?_⟩
  rcases mem_insertCell hc with rfl | hc
  · simp only [cellNumber]
    omega
  · exact h.2 c hc

end Sys2Proof.Machine
end

