-- ==== Sys2Proof/Laws/Ops.lean ====
section
/-! SUPPORT. What each shared operation leaves unchanged, field by field, and what it writes; the stack's addresses. -/

namespace Sys2Proof.Machine

@[simp] theorem advance_a (s : State) (mode : Mode) (mn : Mnemonic) : (s.advance mode mn).a = s.a := rfl
@[simp] theorem advance_x (s : State) (mode : Mode) (mn : Mnemonic) : (s.advance mode mn).x = s.x := rfl
@[simp] theorem advance_y (s : State) (mode : Mode) (mn : Mnemonic) : (s.advance mode mn).y = s.y := rfl
@[simp] theorem advance_sp (s : State) (mode : Mode) (mn : Mnemonic) : (s.advance mode mn).sp = s.sp := rfl
@[simp] theorem advance_pc (s : State) (mode : Mode) (mn : Mnemonic) : (s.advance mode mn).pc = s.pc + BitVec.ofNat 16 (delta mode mn) := rfl
@[simp] theorem advance_p (s : State) (mode : Mode) (mn : Mnemonic) : (s.advance mode mn).p = s.p := rfl
@[simp] theorem advance_cpuMem (s : State) (mode : Mode) (mn : Mnemonic) : (s.advance mode mn).cpuMem = s.cpuMem := rfl
@[simp] theorem advance_latch (s : State) (mode : Mode) (mn : Mnemonic) : (s.advance mode mn).latch = s.latch := rfl
@[simp] theorem advance_scrollX (s : State) (mode : Mode) (mn : Mnemonic) : (s.advance mode mn).scrollX = s.scrollX := rfl
@[simp] theorem advance_scrollY (s : State) (mode : Mode) (mn : Mnemonic) : (s.advance mode mn).scrollY = s.scrollY := rfl
@[simp] theorem advance_nameTableAddr (s : State) (mode : Mode) (mn : Mnemonic) : (s.advance mode mn).nameTableAddr = s.nameTableAddr := rfl
@[simp] theorem advance_backgroundTableAddr (s : State) (mode : Mode) (mn : Mnemonic) : (s.advance mode mn).backgroundTableAddr = s.backgroundTableAddr := rfl
@[simp] theorem advance_generateNmi (s : State) (mode : Mode) (mn : Mnemonic) : (s.advance mode mn).generateNmi = s.generateNmi := rfl
@[simp] theorem advance_verticalBlank (s : State) (mode : Mode) (mn : Mnemonic) : (s.advance mode mn).verticalBlank = s.verticalBlank := rfl
@[simp] theorem advance_ppuCycles (s : State) (mode : Mode) (mn : Mnemonic) : (s.advance mode mn).ppuCycles = s.ppuCycles := rfl
@[simp] theorem advance_scanline (s : State) (mode : Mode) (mn : Mnemonic) : (s.advance mode mn).scanline = s.scanline := rfl
@[simp] theorem advance_frameCount (s : State) (mode : Mode) (mn : Mnemonic) : (s.advance mode mn).frameCount = s.frameCount := rfl
@[simp] theorem advance_ppuMem (s : State) (mode : Mode) (mn : Mnemonic) : (s.advance mode mn).ppuMem = s.ppuMem := rfl
@[simp] theorem advance_screen (s : State) (mode : Mode) (mn : Mnemonic) : (s.advance mode mn).screen = s.screen := rfl
@[simp] theorem advance_faultRecord (s : State) (mode : Mode) (mn : Mnemonic) : (s.advance mode mn).faultRecord = s.faultRecord := rfl
@[simp] theorem advance_turns (s : State) (mode : Mode) (mn : Mnemonic) : (s.advance mode mn).turns = s.turns := rfl
@[simp] theorem advance_cycle (s : State) (mode : Mode) (mn : Mnemonic) : (s.advance mode mn).cycle = s.cycle := rfl

@[simp] theorem setFlag_a (s : State) (f : Flag) (b : Bool) : (s.setFlag f b).a = s.a := rfl
@[simp] theorem setFlag_x (s : State) (f : Flag) (b : Bool) : (s.setFlag f b).x = s.x := rfl
@[simp] theorem setFlag_y (s : State) (f : Flag) (b : Bool) : (s.setFlag f b).y = s.y := rfl
@[simp] theorem setFlag_sp (s : State) (f : Flag) (b : Bool) : (s.setFlag f b).sp = s.sp := rfl
@[simp] theorem setFlag_pc (s : State) (f : Flag) (b : Bool) : (s.setFlag f b).pc = s.pc := rfl
@[simp] theorem setFlag_p (s : State) (f : Flag) (b : Bool) : (s.setFlag f b).p = putFlag s.p f b := rfl
@[simp] theorem setFlag_cpuMem (s : State) (f : Flag) (b : Bool) : (s.setFlag f b).cpuMem = s.cpuMem := rfl
@[simp] theorem setFlag_latch (s : State) (f : Flag) (b : Bool) : (s.setFlag f b).latch = s.latch := rfl
@[simp] theorem setFlag_scrollX (s : State) (f : Flag) (b : Bool) : (s.setFlag f b).scrollX = s.scrollX := rfl
@[simp] theorem setFlag_scrollY (s : State) (f : Flag) (b : Bool) : (s.setFlag f b).scrollY = s.scrollY := rfl
@[simp] theorem setFlag_nameTableAddr (s : State) (f : Flag) (b : Bool) : (s.setFlag f b).nameTableAddr = s.nameTableAddr := rfl
@[simp] theorem setFlag_backgroundTableAddr (s : State) (f : Flag) (b : Bool) : (s.setFlag f b).backgroundTableAddr = s.backgroundTableAddr := rfl
@[simp] theorem setFlag_generateNmi (s : State) (f : Flag) (b : Bool) : (s.setFlag f b).generateNmi = s.generateNmi := rfl
@[simp] theorem setFlag_verticalBlank (s : State) (f : Flag) (b : Bool) : (s.setFlag f b).verticalBlank = s.verticalBlank := rfl
@[simp] theorem setFlag_ppuCycles (s : State) (f : Flag) (b : Bool) : (s.setFlag f b).ppuCycles = s.ppuCycles := rfl
@[simp] theorem setFlag_scanline (s : State) (f : Flag) (b : Bool) : (s.setFlag f b).scanline = s.scanline := rfl
@[simp] theorem setFlag_frameCount (s : State) (f : Flag) (b : Bool) : (s.setFlag f b).frameCount = s.frameCount := rfl
@[simp] theorem setFlag_ppuMem (s : State) (f : Flag) (b : Bool) : (s.setFlag f b).ppuMem = s.ppuMem := rfl
@[simp] theorem setFlag_screen (s : State) (f : Flag) (b : Bool) : (s.setFlag f b).screen = s.screen := rfl
@[simp] theorem setFlag_faultRecord (s : State) (f : Flag) (b : Bool) : (s.setFlag f b).faultRecord = s.faultRecord := rfl
@[simp] theorem setFlag_turns (s : State) (f : Flag) (b : Bool) : (s.setFlag f b).turns = s.turns := rfl
@[simp] theorem setFlag_cycle (s : State) (f : Flag) (b : Bool) : (s.setFlag f b).cycle = s.cycle := rfl

@[simp] theorem setZN_a (s : State) (v : Byte) : (s.setZN v).a = s.a := (setFlag_a _ _ _).trans (setFlag_a _ _ _)
@[simp] theorem setZN_x (s : State) (v : Byte) : (s.setZN v).x = s.x := (setFlag_x _ _ _).trans (setFlag_x _ _ _)
@[simp] theorem setZN_y (s : State) (v : Byte) : (s.setZN v).y = s.y := (setFlag_y _ _ _).trans (setFlag_y _ _ _)
@[simp] theorem setZN_sp (s : State) (v : Byte) : (s.setZN v).sp = s.sp := (setFlag_sp _ _ _).trans (setFlag_sp _ _ _)
@[simp] theorem setZN_pc (s : State) (v : Byte) : (s.setZN v).pc = s.pc := (setFlag_pc _ _ _).trans (setFlag_pc _ _ _)
@[simp] theorem setZN_cpuMem (s : State) (v : Byte) : (s.setZN v).cpuMem = s.cpuMem := (setFlag_cpuMem _ _ _).trans (setFlag_cpuMem _ _ _)
@[simp] theorem setZN_latch (s : State) (v : Byte) : (s.setZN v).latch = s.latch := (setFlag_latch _ _ _).trans (setFlag_latch _ _ _)
@[simp] theorem setZN_scrollX (s : State) (v : Byte) : (s.setZN v).scrollX = s.scrollX := (setFlag_scrollX _ _ _).trans (setFlag_scrollX _ _ _)
@[simp] theorem setZN_scrollY (s : State) (v : Byte) : (s.setZN v).scrollY = s.scrollY := (setFlag_scrollY _ _ _).trans (setFlag_scrollY _ _ _)
@[simp] theorem setZN_nameTableAddr (s : State) (v : Byte) : (s.setZN v).nameTableAddr = s.nameTableAddr := (setFlag_nameTableAddr _ _ _).trans (setFlag_nameTableAddr _ _ _)
@[simp] theorem setZN_backgroundTableAddr (s : State) (v : Byte) : (s.setZN v).backgroundTableAddr = s.backgroundTableAddr := (setFlag_backgroundTableAddr _ _ _).trans (setFlag_backgroundTableAddr _ _ _)
@[simp] theorem setZN_generateNmi (s : State) (v : Byte) : (s.setZN v).generateNmi = s.generateNmi := (setFlag_generateNmi _ _ _).trans (setFlag_generateNmi _ _ _)
@[simp] theorem setZN_verticalBlank (s : State) (v : Byte) : (s.setZN v).verticalBlank = s.verticalBlank := (setFlag_verticalBlank _ _ _).trans (setFlag_verticalBlank _ _ _)
@[simp] theorem setZN_ppuCycles (s : State) (v : Byte) : (s.setZN v).ppuCycles = s.ppuCycles := (setFlag_ppuCycles _ _ _).trans (setFlag_ppuCycles _ _ _)
@[simp] theorem setZN_scanline (s : State) (v : Byte) : (s.setZN v).scanline = s.scanline := (setFlag_scanline _ _ _).trans (setFlag_scanline _ _ _)
@[simp] theorem setZN_frameCount (s : State) (v : Byte) : (s.setZN v).frameCount = s.frameCount := (setFlag_frameCount _ _ _).trans (setFlag_frameCount _ _ _)
@[simp] theorem setZN_ppuMem (s : State) (v : Byte) : (s.setZN v).ppuMem = s.ppuMem := (setFlag_ppuMem _ _ _).trans (setFlag_ppuMem _ _ _)
@[simp] theorem setZN_screen (s : State) (v : Byte) : (s.setZN v).screen = s.screen := (setFlag_screen _ _ _).trans (setFlag_screen _ _ _)
@[simp] theorem setZN_faultRecord (s : State) (v : Byte) : (s.setZN v).faultRecord = s.faultRecord := (setFlag_faultRecord _ _ _).trans (setFlag_faultRecord _ _ _)
@[simp] theorem setZN_turns (s : State) (v : Byte) : (s.setZN v).turns = s.turns := (setFlag_turns _ _ _).trans (setFlag_turns _ _ _)
@[simp] theorem setZN_cycle (s : State) (v : Byte) : (s.setZN v).cycle = s.cycle := (setFlag_cycle _ _ _).trans (setFlag_cycle _ _ _)

@[simp] theorem push_a (s : State) (v : Byte) : (push v s).a = s.a := (setSp_a _ _).trans (writeCpu_a _ _ _)
@[simp] theorem push_x (s : State) (v : Byte) : (push v s).x = s.x := (setSp_x _ _).trans (writeCpu_x _ _ _)
@[simp] theorem push_y (s : State) (v : Byte) : (push v s).y = s.y := (setSp_y _ _).trans (writeCpu_y _ _ _)
@[simp] theorem push_sp (s : State) (v : Byte) : (push v s).sp = s.sp - 1 := rfl
@[simp] theorem push_pc (s : State) (v : Byte) : (push v s).pc = s.pc := (setSp_pc _ _).trans (writeCpu_pc _ _ _)
@[simp] theorem push_p (s : State) (v : Byte) : (push v s).p = s.p := (setSp_p _ _).trans (writeCpu_p _ _ _)
@[simp] theorem push_cpuMem (s : State) (v : Byte) : (push v s).cpuMem = s.cpuMem.write (stackAddr s.sp) v := rfl
@[simp] theorem push_latch (s : State) (v : Byte) : (push v s).latch = s.latch := (setSp_latch _ _).trans (writeCpu_latch _ _ _)
@[simp] theorem push_scrollX (s : State) (v : Byte) : (push v s).scrollX = s.scrollX := (setSp_scrollX _ _).trans (writeCpu_scrollX _ _ _)
@[simp] theorem push_scrollY (s : State) (v : Byte) : (push v s).scrollY = s.scrollY := (setSp_scrollY _ _).trans (writeCpu_scrollY _ _ _)
@[simp] theorem push_nameTableAddr (s : State) (v : Byte) : (push v s).nameTableAddr = s.nameTableAddr := (setSp_nameTableAddr _ _).trans (writeCpu_nameTableAddr _ _ _)
@[simp] theorem push_backgroundTableAddr (s : State) (v : Byte) : (push v s).backgroundTableAddr = s.backgroundTableAddr := (setSp_backgroundTableAddr _ _).trans (writeCpu_backgroundTableAddr _ _ _)
@[simp] theorem push_generateNmi (s : State) (v : Byte) : (push v s).generateNmi = s.generateNmi := (setSp_generateNmi _ _).trans (writeCpu_generateNmi _ _ _)
@[simp] theorem push_verticalBlank (s : State) (v : Byte) : (push v s).verticalBlank = s.verticalBlank := (setSp_verticalBlank _ _).trans (writeCpu_verticalBlank _ _ _)
@[simp] theorem push_ppuCycles (s : State) (v : Byte) : (push v s).ppuCycles = s.ppuCycles := (setSp_ppuCycles _ _).trans (writeCpu_ppuCycles _ _ _)
@[simp] theorem push_scanline (s : State) (v : Byte) : (push v s).scanline = s.scanline := (setSp_scanline _ _).trans (writeCpu_scanline _ _ _)
@[simp] theorem push_frameCount (s : State) (v : Byte) : (push v s).frameCount = s.frameCount := (setSp_frameCount _ _).trans (writeCpu_frameCount _ _ _)
@[simp] theorem push_ppuMem (s : State) (v : Byte) : (push v s).ppuMem = s.ppuMem := (setSp_ppuMem _ _).trans (writeCpu_ppuMem _ _ _)
@[simp] theorem push_screen (s : State) (v : Byte) : (push v s).screen = s.screen := (setSp_screen _ _).trans (writeCpu_screen _ _ _)
@[simp] theorem push_faultRecord (s : State) (v : Byte) : (push v s).faultRecord = s.faultRecord := (setSp_faultRecord _ _).trans (writeCpu_faultRecord _ _ _)
@[simp] theorem push_turns (s : State) (v : Byte) : (push v s).turns = s.turns := (setSp_turns _ _).trans (writeCpu_turns _ _ _)
@[simp] theorem push_cycle (s : State) (v : Byte) : (push v s).cycle = s.cycle := (setSp_cycle _ _).trans (writeCpu_cycle _ _ _)

@[simp] theorem push16_a (s : State) (v : Word) : (push16 v s).a = s.a := (push_a _ _).trans (push_a _ _)
@[simp] theorem push16_x (s : State) (v : Word) : (push16 v s).x = s.x := (push_x _ _).trans (push_x _ _)
@[simp] theorem push16_y (s : State) (v : Word) : (push16 v s).y = s.y := (push_y _ _).trans (push_y _ _)
@[simp] theorem push16_sp (s : State) (v : Word) : (push16 v s).sp = s.sp - 1 - 1 := rfl
@[simp] theorem push16_pc (s : State) (v : Word) : (push16 v s).pc = s.pc := (push_pc _ _).trans (push_pc _ _)
@[simp] theorem push16_p (s : State) (v : Word) : (push16 v s).p = s.p := (push_p _ _).trans (push_p _ _)
@[simp] theorem push16_cpuMem (s : State) (v : Word) : (push16 v s).cpuMem = (s.cpuMem.write (stackAddr s.sp) (hiByte v)).write (stackAddr (s.sp - 1)) (loByte v) := rfl
@[simp] theorem push16_latch (s : State) (v : Word) : (push16 v s).latch = s.latch := (push_latch _ _).trans (push_latch _ _)
@[simp] theorem push16_scrollX (s : State) (v : Word) : (push16 v s).scrollX = s.scrollX := (push_scrollX _ _).trans (push_scrollX _ _)
@[simp] theorem push16_scrollY (s : State) (v : Word) : (push16 v s).scrollY = s.scrollY := (push_scrollY _ _).trans (push_scrollY _ _)
@[simp] theorem push16_nameTableAddr (s : State) (v : Word) : (push16 v s).nameTableAddr = s.nameTableAddr := (push_nameTableAddr _ _).trans (push_nameTableAddr _ _)
@[simp] theorem push16_backgroundTableAddr (s : State) (v : Word) : (push16 v s).backgroundTableAddr = s.backgroundTableAddr := (push_backgroundTableAddr _ _).trans (push_backgroundTableAddr _ _)
@[simp] theorem push16_generateNmi (s : State) (v : Word) : (push16 v s).generateNmi = s.generateNmi := (push_generateNmi _ _).trans (push_generateNmi _ _)
@[simp] theorem push16_verticalBlank (s : State) (v : Word) : (push16 v s).verticalBlank = s.verticalBlank := (push_verticalBlank _ _).trans (push_verticalBlank _ _)
@[simp] theorem push16_ppuCycles (s : State) (v : Word) : (push16 v s).ppuCycles = s.ppuCycles := (push_ppuCycles _ _).trans (push_ppuCycles _ _)
@[simp] theorem push16_scanline (s : State) (v : Word) : (push16 v s).scanline = s.scanline := (push_scanline _ _).trans (push_scanline _ _)
@[simp] theorem push16_frameCount (s : State) (v : Word) : (push16 v s).frameCount = s.frameCount := (push_frameCount _ _).trans (push_frameCount _ _)
@[simp] theorem push16_ppuMem (s : State) (v : Word) : (push16 v s).ppuMem = s.ppuMem := (push_ppuMem _ _).trans (push_ppuMem _ _)
@[simp] theorem push16_screen (s : State) (v : Word) : (push16 v s).screen = s.screen := (push_screen _ _).trans (push_screen _ _)
@[simp] theorem push16_faultRecord (s : State) (v : Word) : (push16 v s).faultRecord = s.faultRecord := (push_faultRecord _ _).trans (push_faultRecord _ _)
@[simp] theorem push16_turns (s : State) (v : Word) : (push16 v s).turns = s.turns := (push_turns _ _).trans (push_turns _ _)
@[simp] theorem push16_cycle (s : State) (v : Word) : (push16 v s).cycle = s.cycle := (push_cycle _ _).trans (push_cycle _ _)

@[simp] theorem callTo_a (s : State) (ea : Word) : (callTo ea s).a = s.a := (setPc_a _ _).trans (push16_a _ _)
@[simp] theorem callTo_x (s : State) (ea : Word) : (callTo ea s).x = s.x := (setPc_x _ _).trans (push16_x _ _)
@[simp] theorem callTo_y (s : State) (ea : Word) : (callTo ea s).y = s.y := (setPc_y _ _).trans (push16_y _ _)
@[simp] theorem callTo_sp (s : State) (ea : Word) : (callTo ea s).sp = s.sp - 1 - 1 := rfl
@[simp] theorem callTo_pc (s : State) (ea : Word) : (callTo ea s).pc = ea := rfl
@[simp] theorem callTo_p (s : State) (ea : Word) : (callTo ea s).p = s.p := (setPc_p _ _).trans (push16_p _ _)
@[simp] theorem callTo_cpuMem (s : State) (ea : Word) : (callTo ea s).cpuMem = (push16 (s.pc - 1) s).cpuMem := rfl
@[simp] theorem callTo_latch (s : State) (ea : Word) : (callTo ea s).latch = s.latch := (setPc_latch _ _).trans (push16_latch _ _)
@[simp] theorem callTo_scrollX (s : State) (ea : Word) : (callTo ea s).scrollX = s.scrollX := (setPc_scrollX _ _).trans (push16_scrollX _ _)
@[simp] theorem callTo_scrollY (s : State) (ea : Word) : (callTo ea s).scrollY = s.scrollY := (setPc_scrollY _ _).trans (push16_scrollY _ _)
@[simp] theorem callTo_nameTableAddr (s : State) (ea : Word) : (callTo ea s).nameTableAddr = s.nameTableAddr := (setPc_nameTableAddr _ _).trans (push16_nameTableAddr _ _)
@[simp] theorem callTo_backgroundTableAddr (s : State) (ea : Word) : (callTo ea s).backgroundTableAddr = s.backgroundTableAddr := (setPc_backgroundTableAddr _ _).trans (push16_backgroundTableAddr _ _)
@[simp] theorem callTo_generateNmi (s : State) (ea : Word) : (callTo ea s).generateNmi = s.generateNmi := (setPc_generateNmi _ _).trans (push16_generateNmi _ _)
@[simp] theorem callTo_verticalBlank (s : State) (ea : Word) : (callTo ea s).verticalBlank = s.verticalBlank := (setPc_verticalBlank _ _).trans (push16_verticalBlank _ _)
@[simp] theorem callTo_ppuCycles (s : State) (ea : Word) : (callTo ea s).ppuCycles = s.ppuCycles := (setPc_ppuCycles _ _).trans (push16_ppuCycles _ _)
@[simp] theorem callTo_scanline (s : State) (ea : Word) : (callTo ea s).scanline = s.scanline := (setPc_scanline _ _).trans (push16_scanline _ _)
@[simp] theorem callTo_frameCount (s : State) (ea : Word) : (callTo ea s).frameCount = s.frameCount := (setPc_frameCount _ _).trans (push16_frameCount _ _)
@[simp] theorem callTo_ppuMem (s : State) (ea : Word) : (callTo ea s).ppuMem = s.ppuMem := (setPc_ppuMem _ _).trans (push16_ppuMem _ _)
@[simp] theorem callTo_screen (s : State) (ea : Word) : (callTo ea s).screen = s.screen := (setPc_screen _ _).trans (push16_screen _ _)
@[simp] theorem callTo_faultRecord (s : State) (ea : Word) : (callTo ea s).faultRecord = s.faultRecord := (setPc_faultRecord _ _).trans (push16_faultRecord _ _)
@[simp] theorem callTo_turns (s : State) (ea : Word) : (callTo ea s).turns = s.turns := (setPc_turns _ _).trans (push16_turns _ _)
@[simp] theorem callTo_cycle (s : State) (ea : Word) : (callTo ea s).cycle = s.cycle := (setPc_cycle _ _).trans (push16_cycle _ _)

@[simp] theorem loadA_a (s : State) (v : Byte) : (loadA v s).a = v := rfl
@[simp] theorem loadA_x (s : State) (v : Byte) : (loadA v s).x = s.x := (setZN_x _ _).trans (setA_x _ _)
@[simp] theorem loadA_y (s : State) (v : Byte) : (loadA v s).y = s.y := (setZN_y _ _).trans (setA_y _ _)
@[simp] theorem loadA_sp (s : State) (v : Byte) : (loadA v s).sp = s.sp := (setZN_sp _ _).trans (setA_sp _ _)
@[simp] theorem loadA_pc (s : State) (v : Byte) : (loadA v s).pc = s.pc := (setZN_pc _ _).trans (setA_pc _ _)
@[simp] theorem loadA_p (s : State) (v : Byte) : (loadA v s).p = (s.setZN v).p := rfl
@[simp] theorem loadA_cpuMem (s : State) (v : Byte) : (loadA v s).cpuMem = s.cpuMem := (setZN_cpuMem _ _).trans (setA_cpuMem _ _)
@[simp] theorem loadA_latch (s : State) (v : Byte) : (loadA v s).latch = s.latch := (setZN_latch _ _).trans (setA_latch _ _)
@[simp] theorem loadA_scrollX (s : State) (v : Byte) : (loadA v s).scrollX = s.scrollX := (setZN_scrollX _ _).trans (setA_scrollX _ _)
@[simp] theorem loadA_scrollY (s : State) (v : Byte) : (loadA v s).scrollY = s.scrollY := (setZN_scrollY _ _).trans (setA_scrollY _ _)
@[simp] theorem loadA_nameTableAddr (s : State) (v : Byte) : (loadA v s).nameTableAddr = s.nameTableAddr := (setZN_nameTableAddr _ _).trans (setA_nameTableAddr _ _)
@[simp] theorem loadA_backgroundTableAddr (s : State) (v : Byte) : (loadA v s).backgroundTableAddr = s.backgroundTableAddr := (setZN_backgroundTableAddr _ _).trans (setA_backgroundTableAddr _ _)
@[simp] theorem loadA_generateNmi (s : State) (v : Byte) : (loadA v s).generateNmi = s.generateNmi := (setZN_generateNmi _ _).trans (setA_generateNmi _ _)
@[simp] theorem loadA_verticalBlank (s : State) (v : Byte) : (loadA v s).verticalBlank = s.verticalBlank := (setZN_verticalBlank _ _).trans (setA_verticalBlank _ _)
@[simp] theorem loadA_ppuCycles (s : State) (v : Byte) : (loadA v s).ppuCycles = s.ppuCycles := (setZN_ppuCycles _ _).trans (setA_ppuCycles _ _)
@[simp] theorem loadA_scanline (s : State) (v : Byte) : (loadA v s).scanline = s.scanline := (setZN_scanline _ _).trans (setA_scanline _ _)
@[simp] theorem loadA_frameCount (s : State) (v : Byte) : (loadA v s).frameCount = s.frameCount := (setZN_frameCount _ _).trans (setA_frameCount _ _)
@[simp] theorem loadA_ppuMem (s : State) (v : Byte) : (loadA v s).ppuMem = s.ppuMem := (setZN_ppuMem _ _).trans (setA_ppuMem _ _)
@[simp] theorem loadA_screen (s : State) (v : Byte) : (loadA v s).screen = s.screen := (setZN_screen _ _).trans (setA_screen _ _)
@[simp] theorem loadA_faultRecord (s : State) (v : Byte) : (loadA v s).faultRecord = s.faultRecord := (setZN_faultRecord _ _).trans (setA_faultRecord _ _)
@[simp] theorem loadA_turns (s : State) (v : Byte) : (loadA v s).turns = s.turns := (setZN_turns _ _).trans (setA_turns _ _)
@[simp] theorem loadA_cycle (s : State) (v : Byte) : (loadA v s).cycle = s.cycle := (setZN_cycle _ _).trans (setA_cycle _ _)

@[simp] theorem loadX_a (s : State) (v : Byte) : (loadX v s).a = s.a := (setZN_a _ _).trans (setX_a _ _)
@[simp] theorem loadX_x (s : State) (v : Byte) : (loadX v s).x = v := rfl
@[simp] theorem loadX_y (s : State) (v : Byte) : (loadX v s).y = s.y := (setZN_y _ _).trans (setX_y _ _)
@[simp] theorem loadX_sp (s : State) (v : Byte) : (loadX v s).sp = s.sp := (setZN_sp _ _).trans (setX_sp _ _)
@[simp] theorem loadX_pc (s : State) (v : Byte) : (loadX v s).pc = s.pc := (setZN_pc _ _).trans (setX_pc _ _)
@[simp] theorem loadX_p (s : State) (v : Byte) : (loadX v s).p = (s.setZN v).p := rfl
@[simp] theorem loadX_cpuMem (s : State) (v : Byte) : (loadX v s).cpuMem = s.cpuMem := (setZN_cpuMem _ _).trans (setX_cpuMem _ _)
@[simp] theorem loadX_latch (s : State) (v : Byte) : (loadX v s).latch = s.latch := (setZN_latch _ _).trans (setX_latch _ _)
@[simp] theorem loadX_scrollX (s : State) (v : Byte) : (loadX v s).scrollX = s.scrollX := (setZN_scrollX _ _).trans (setX_scrollX _ _)
@[simp] theorem loadX_scrollY (s : State) (v : Byte) : (loadX v s).scrollY = s.scrollY := (setZN_scrollY _ _).trans (setX_scrollY _ _)
@[simp] theorem loadX_nameTableAddr (s : State) (v : Byte) : (loadX v s).nameTableAddr = s.nameTableAddr := (setZN_nameTableAddr _ _).trans (setX_nameTableAddr _ _)
@[simp] theorem loadX_backgroundTableAddr (s : State) (v : Byte) : (loadX v s).backgroundTableAddr = s.backgroundTableAddr := (setZN_backgroundTableAddr _ _).trans (setX_backgroundTableAddr _ _)
@[simp] theorem loadX_generateNmi (s : State) (v : Byte) : (loadX v s).generateNmi = s.generateNmi := (setZN_generateNmi _ _).trans (setX_generateNmi _ _)
@[simp] theorem loadX_verticalBlank (s : State) (v : Byte) : (loadX v s).verticalBlank = s.verticalBlank := (setZN_verticalBlank _ _).trans (setX_verticalBlank _ _)
@[simp] theorem loadX_ppuCycles (s : State) (v : Byte) : (loadX v s).ppuCycles = s.ppuCycles := (setZN_ppuCycles _ _).trans (setX_ppuCycles _ _)
@[simp] theorem loadX_scanline (s : State) (v : Byte) : (loadX v s).scanline = s.scanline := (setZN_scanline _ _).trans (setX_scanline _ _)
@[simp] theorem loadX_frameCount (s : State) (v : Byte) : (loadX v s).frameCount = s.frameCount := (setZN_frameCount _ _).trans (setX_frameCount _ _)
@[simp] theorem loadX_ppuMem (s : State) (v : Byte) : (loadX v s).ppuMem = s.ppuMem := (setZN_ppuMem _ _).trans (setX_ppuMem _ _)
@[simp] theorem loadX_screen (s : State) (v : Byte) : (loadX v s).screen = s.screen := (setZN_screen _ _).trans (setX_screen _ _)
@[simp] theorem loadX_faultRecord (s : State) (v : Byte) : (loadX v s).faultRecord = s.faultRecord := (setZN_faultRecord _ _).trans (setX_faultRecord _ _)
@[simp] theorem loadX_turns (s : State) (v : Byte) : (loadX v s).turns = s.turns := (setZN_turns _ _).trans (setX_turns _ _)
@[simp] theorem loadX_cycle (s : State) (v : Byte) : (loadX v s).cycle = s.cycle := (setZN_cycle _ _).trans (setX_cycle _ _)

@[simp] theorem resetPpu_a (s : State) : (resetPpu s).a = s.a := rfl
@[simp] theorem resetPpu_x (s : State) : (resetPpu s).x = s.x := rfl
@[simp] theorem resetPpu_y (s : State) : (resetPpu s).y = s.y := rfl
@[simp] theorem resetPpu_sp (s : State) : (resetPpu s).sp = s.sp := rfl
@[simp] theorem resetPpu_pc (s : State) : (resetPpu s).pc = s.pc := rfl
@[simp] theorem resetPpu_p (s : State) : (resetPpu s).p = s.p := rfl
@[simp] theorem resetPpu_cpuMem (s : State) : (resetPpu s).cpuMem = s.cpuMem := rfl
@[simp] theorem resetPpu_latch (s : State) : (resetPpu s).latch = s.latch := rfl
@[simp] theorem resetPpu_scrollX (s : State) : (resetPpu s).scrollX = s.scrollX := rfl
@[simp] theorem resetPpu_scrollY (s : State) : (resetPpu s).scrollY = s.scrollY := rfl
@[simp] theorem resetPpu_nameTableAddr (s : State) : (resetPpu s).nameTableAddr = s.nameTableAddr := rfl
@[simp] theorem resetPpu_backgroundTableAddr (s : State) : (resetPpu s).backgroundTableAddr = s.backgroundTableAddr := rfl
@[simp] theorem resetPpu_generateNmi (s : State) : (resetPpu s).generateNmi = s.generateNmi := rfl
@[simp] theorem resetPpu_verticalBlank (s : State) : (resetPpu s).verticalBlank = false := rfl
@[simp] theorem resetPpu_ppuCycles (s : State) : (resetPpu s).ppuCycles = 340 := rfl
@[simp] theorem resetPpu_scanline (s : State) : (resetPpu s).scanline = 240 := rfl
@[simp] theorem resetPpu_frameCount (s : State) : (resetPpu s).frameCount = s.frameCount := rfl
@[simp] theorem resetPpu_ppuMem (s : State) : (resetPpu s).ppuMem = s.ppuMem := rfl
@[simp] theorem resetPpu_screen (s : State) : (resetPpu s).screen = s.screen := rfl
@[simp] theorem resetPpu_faultRecord (s : State) : (resetPpu s).faultRecord = s.faultRecord := rfl
@[simp] theorem resetPpu_turns (s : State) : (resetPpu s).turns = s.turns := rfl
@[simp] theorem resetPpu_cycle (s : State) : (resetPpu s).cycle = s.cycle := rfl

@[simp] theorem recordFault_a (s : State) (f : Fault) : (s.recordFault f).a = s.a := rfl
@[simp] theorem recordFault_x (s : State) (f : Fault) : (s.recordFault f).x = s.x := rfl
@[simp] theorem recordFault_y (s : State) (f : Fault) : (s.recordFault f).y = s.y := rfl
@[simp] theorem recordFault_sp (s : State) (f : Fault) : (s.recordFault f).sp = s.sp := rfl
@[simp] theorem recordFault_pc (s : State) (f : Fault) : (s.recordFault f).pc = s.pc := rfl
@[simp] theorem recordFault_p (s : State) (f : Fault) : (s.recordFault f).p = s.p := rfl
@[simp] theorem recordFault_cpuMem (s : State) (f : Fault) : (s.recordFault f).cpuMem = s.cpuMem := rfl
@[simp] theorem recordFault_latch (s : State) (f : Fault) : (s.recordFault f).latch = s.latch := rfl
@[simp] theorem recordFault_scrollX (s : State) (f : Fault) : (s.recordFault f).scrollX = s.scrollX := rfl
@[simp] theorem recordFault_scrollY (s : State) (f : Fault) : (s.recordFault f).scrollY = s.scrollY := rfl
@[simp] theorem recordFault_nameTableAddr (s : State) (f : Fault) : (s.recordFault f).nameTableAddr = s.nameTableAddr := rfl
@[simp] theorem recordFault_backgroundTableAddr (s : State) (f : Fault) : (s.recordFault f).backgroundTableAddr = s.backgroundTableAddr := rfl
@[simp] theorem recordFault_generateNmi (s : State) (f : Fault) : (s.recordFault f).generateNmi = s.generateNmi := rfl
@[simp] theorem recordFault_verticalBlank (s : State) (f : Fault) : (s.recordFault f).verticalBlank = s.verticalBlank := rfl
@[simp] theorem recordFault_ppuCycles (s : State) (f : Fault) : (s.recordFault f).ppuCycles = s.ppuCycles := rfl
@[simp] theorem recordFault_scanline (s : State) (f : Fault) : (s.recordFault f).scanline = s.scanline := rfl
@[simp] theorem recordFault_frameCount (s : State) (f : Fault) : (s.recordFault f).frameCount = s.frameCount := rfl
@[simp] theorem recordFault_ppuMem (s : State) (f : Fault) : (s.recordFault f).ppuMem = s.ppuMem := rfl
@[simp] theorem recordFault_screen (s : State) (f : Fault) : (s.recordFault f).screen = s.screen := rfl
@[simp] theorem recordFault_faultRecord (s : State) (f : Fault) : (s.recordFault f).faultRecord = some f := rfl
@[simp] theorem recordFault_turns (s : State) (f : Fault) : (s.recordFault f).turns = s.turns := rfl
@[simp] theorem recordFault_cycle (s : State) (f : Fault) : (s.recordFault f).cycle = s.cycle := rfl

/-- `0x0100 | Sp` is `0x0100 + Sp`, because Sp is a byte (R143). -/
theorem stackAddr_toNat (sp : Byte) : (stackAddr sp).toNat = 256 + sp.toNat := by
  have h := Nat.two_pow_add_eq_or_of_lt (i := 8) sp.isLt 1
  have hs : sp.toNat % 65536 = sp.toNat := Nat.mod_eq_of_lt (sp.isLt.trans (by decide))
  simp only [stackAddr, BitVec.toNat_or, BitVec.toNat_ofNat, BitVec.toNat_setWidth]
  rw [show (2 ^ 16 : Nat) = 65536 from rfl, hs]
  exact h.symm

/-- Different stack pointers name different cells. -/
theorem stackAddr_inj {s t : Byte} : stackAddr s = stackAddr t ↔ s = t := by
  rw [← BitVec.toNat_inj, ← BitVec.toNat_inj, stackAddr_toNat, stackAddr_toNat]
  omega

/-- The operand of a 16-bit format has the bytes it was made of. -/
@[simp] theorem wordOfBytes_lo_hi (w : Word) : wordOfBytes (loByte w) (hiByte w) = w := by
  apply BitVec.eq_of_getLsbD_eq
  intro k hk
  simp only [wordOfBytes, loByte, hiByte, BitVec.getLsbD_append, BitVec.getLsbD_extractLsb']
  by_cases h8 : k < 8
  · simp [h8]
  · simp [h8, show k - 8 < 8 by omega, show 8 + (k - 8) = k by omega]

@[simp] theorem loByte_wordOfBytes (lo hi : Byte) : loByte (wordOfBytes lo hi) = lo := by
  apply BitVec.eq_of_getLsbD_eq
  intro k hk
  show (BitVec.extractLsb' 0 8 (hi ++ lo : BitVec (8 + 8))).getLsbD k = _
  rw [BitVec.getLsbD_extractLsb', BitVec.getLsbD_append]
  simp [hk]

@[simp] theorem hiByte_wordOfBytes (lo hi : Byte) : hiByte (wordOfBytes lo hi) = hi := by
  apply BitVec.eq_of_getLsbD_eq
  intro k hk
  show (BitVec.extractLsb' 8 8 (hi ++ lo : BitVec (8 + 8))).getLsbD k = _
  rw [BitVec.getLsbD_extractLsb', BitVec.getLsbD_append]
  simp [hk]

end Sys2Proof.Machine
end

