-- ==== Sys2Proof/Laws/PerInstr.lean ====
section
/-! SUPPORT. Facts about every instruction as syntax, one lemma a constructor. -/

namespace Sys2Proof.Laws.EncodeLength

/-- The bytes of an instruction are as many as its length, from one to three (R90), and begin with its opcode byte. -/
def Statement (i : Instr) : Prop :=
  (encode i).length = i.length ∧ 1 ≤ i.length ∧ i.length ≤ 3 ∧ (encode i).head? = some i.opcode

/-- No format has more than two operand bytes (R91), which is all the statement needs. -/
theorem of_operandBytes (i : Instr) (h : i.operandBytes.length ≤ 2) : Statement i := by
  refine ⟨?_, ?_, ?_, rfl⟩ <;> simp only [encode, Instr.length, List.length_cons] <;> omega

theorem adcImm (imm : Byte) : Statement (.adcImm imm) := of_operandBytes _ (Nat.le_succ 1)
theorem adcZp (zp : Byte) : Statement (.adcZp zp) := of_operandBytes _ (Nat.le_succ 1)
theorem adcZpX (zp : Byte) : Statement (.adcZpX zp) := of_operandBytes _ (Nat.le_succ 1)
theorem adcAbs (addr : Word) : Statement (.adcAbs addr) := of_operandBytes _ (Nat.le_refl 2)
theorem adcAbsX (addr : Word) : Statement (.adcAbsX addr) := of_operandBytes _ (Nat.le_refl 2)
theorem adcAbsY (addr : Word) : Statement (.adcAbsY addr) := of_operandBytes _ (Nat.le_refl 2)
theorem adcIzX (zp : Byte) : Statement (.adcIzX zp) := of_operandBytes _ (Nat.le_succ 1)
theorem adcIzY (zp : Byte) : Statement (.adcIzY zp) := of_operandBytes _ (Nat.le_succ 1)
theorem andImm (imm : Byte) : Statement (.andImm imm) := of_operandBytes _ (Nat.le_succ 1)
theorem andZp (zp : Byte) : Statement (.andZp zp) := of_operandBytes _ (Nat.le_succ 1)
theorem andZpX (zp : Byte) : Statement (.andZpX zp) := of_operandBytes _ (Nat.le_succ 1)
theorem andAbs (addr : Word) : Statement (.andAbs addr) := of_operandBytes _ (Nat.le_refl 2)
theorem andAbsX (addr : Word) : Statement (.andAbsX addr) := of_operandBytes _ (Nat.le_refl 2)
theorem andAbsY (addr : Word) : Statement (.andAbsY addr) := of_operandBytes _ (Nat.le_refl 2)
theorem andIzX (zp : Byte) : Statement (.andIzX zp) := of_operandBytes _ (Nat.le_succ 1)
theorem andIzY (zp : Byte) : Statement (.andIzY zp) := of_operandBytes _ (Nat.le_succ 1)
theorem aslAcc : Statement (.aslAcc) := of_operandBytes _ (Nat.zero_le 2)
theorem aslZp (zp : Byte) : Statement (.aslZp zp) := of_operandBytes _ (Nat.le_succ 1)
theorem aslZpX (zp : Byte) : Statement (.aslZpX zp) := of_operandBytes _ (Nat.le_succ 1)
theorem aslAbs (addr : Word) : Statement (.aslAbs addr) := of_operandBytes _ (Nat.le_refl 2)
theorem aslAbsX (addr : Word) : Statement (.aslAbsX addr) := of_operandBytes _ (Nat.le_refl 2)
theorem bcc (rel : Byte) : Statement (.bcc rel) := of_operandBytes _ (Nat.le_succ 1)
theorem bcs (rel : Byte) : Statement (.bcs rel) := of_operandBytes _ (Nat.le_succ 1)
theorem beq (rel : Byte) : Statement (.beq rel) := of_operandBytes _ (Nat.le_succ 1)
theorem bitZp (zp : Byte) : Statement (.bitZp zp) := of_operandBytes _ (Nat.le_succ 1)
theorem bitAbs (addr : Word) : Statement (.bitAbs addr) := of_operandBytes _ (Nat.le_refl 2)
theorem bmi (rel : Byte) : Statement (.bmi rel) := of_operandBytes _ (Nat.le_succ 1)
theorem bne (rel : Byte) : Statement (.bne rel) := of_operandBytes _ (Nat.le_succ 1)
theorem bpl (rel : Byte) : Statement (.bpl rel) := of_operandBytes _ (Nat.le_succ 1)
theorem brk : Statement (.brk) := of_operandBytes _ (Nat.zero_le 2)
theorem bvc (rel : Byte) : Statement (.bvc rel) := of_operandBytes _ (Nat.le_succ 1)
theorem bvs (rel : Byte) : Statement (.bvs rel) := of_operandBytes _ (Nat.le_succ 1)
theorem clc : Statement (.clc) := of_operandBytes _ (Nat.zero_le 2)
theorem cld : Statement (.cld) := of_operandBytes _ (Nat.zero_le 2)
theorem cli : Statement (.cli) := of_operandBytes _ (Nat.zero_le 2)
theorem clv : Statement (.clv) := of_operandBytes _ (Nat.zero_le 2)
theorem cmpImm (imm : Byte) : Statement (.cmpImm imm) := of_operandBytes _ (Nat.le_succ 1)
theorem cmpZp (zp : Byte) : Statement (.cmpZp zp) := of_operandBytes _ (Nat.le_succ 1)
theorem cmpZpX (zp : Byte) : Statement (.cmpZpX zp) := of_operandBytes _ (Nat.le_succ 1)
theorem cmpAbs (addr : Word) : Statement (.cmpAbs addr) := of_operandBytes _ (Nat.le_refl 2)
theorem cmpAbsX (addr : Word) : Statement (.cmpAbsX addr) := of_operandBytes _ (Nat.le_refl 2)
theorem cmpAbsY (addr : Word) : Statement (.cmpAbsY addr) := of_operandBytes _ (Nat.le_refl 2)
theorem cmpIzX (zp : Byte) : Statement (.cmpIzX zp) := of_operandBytes _ (Nat.le_succ 1)
theorem cmpIzY (zp : Byte) : Statement (.cmpIzY zp) := of_operandBytes _ (Nat.le_succ 1)
theorem cpxImm (imm : Byte) : Statement (.cpxImm imm) := of_operandBytes _ (Nat.le_succ 1)
theorem cpxZp (zp : Byte) : Statement (.cpxZp zp) := of_operandBytes _ (Nat.le_succ 1)
theorem cpxAbs (addr : Word) : Statement (.cpxAbs addr) := of_operandBytes _ (Nat.le_refl 2)
theorem cpyImm (imm : Byte) : Statement (.cpyImm imm) := of_operandBytes _ (Nat.le_succ 1)
theorem cpyZp (zp : Byte) : Statement (.cpyZp zp) := of_operandBytes _ (Nat.le_succ 1)
theorem cpyAbs (addr : Word) : Statement (.cpyAbs addr) := of_operandBytes _ (Nat.le_refl 2)
theorem decZp (zp : Byte) : Statement (.decZp zp) := of_operandBytes _ (Nat.le_succ 1)
theorem decZpX (zp : Byte) : Statement (.decZpX zp) := of_operandBytes _ (Nat.le_succ 1)
theorem decAbs (addr : Word) : Statement (.decAbs addr) := of_operandBytes _ (Nat.le_refl 2)
theorem decAbsX (addr : Word) : Statement (.decAbsX addr) := of_operandBytes _ (Nat.le_refl 2)
theorem dex : Statement (.dex) := of_operandBytes _ (Nat.zero_le 2)
theorem dey : Statement (.dey) := of_operandBytes _ (Nat.zero_le 2)
theorem eorImm (imm : Byte) : Statement (.eorImm imm) := of_operandBytes _ (Nat.le_succ 1)
theorem eorZp (zp : Byte) : Statement (.eorZp zp) := of_operandBytes _ (Nat.le_succ 1)
theorem eorZpX (zp : Byte) : Statement (.eorZpX zp) := of_operandBytes _ (Nat.le_succ 1)
theorem eorAbs (addr : Word) : Statement (.eorAbs addr) := of_operandBytes _ (Nat.le_refl 2)
theorem eorAbsX (addr : Word) : Statement (.eorAbsX addr) := of_operandBytes _ (Nat.le_refl 2)
theorem eorAbsY (addr : Word) : Statement (.eorAbsY addr) := of_operandBytes _ (Nat.le_refl 2)
theorem eorIzX (zp : Byte) : Statement (.eorIzX zp) := of_operandBytes _ (Nat.le_succ 1)
theorem eorIzY (zp : Byte) : Statement (.eorIzY zp) := of_operandBytes _ (Nat.le_succ 1)
theorem incZp (zp : Byte) : Statement (.incZp zp) := of_operandBytes _ (Nat.le_succ 1)
theorem incZpX (zp : Byte) : Statement (.incZpX zp) := of_operandBytes _ (Nat.le_succ 1)
theorem incAbs (addr : Word) : Statement (.incAbs addr) := of_operandBytes _ (Nat.le_refl 2)
theorem incAbsX (addr : Word) : Statement (.incAbsX addr) := of_operandBytes _ (Nat.le_refl 2)
theorem inx : Statement (.inx) := of_operandBytes _ (Nat.zero_le 2)
theorem iny : Statement (.iny) := of_operandBytes _ (Nat.zero_le 2)
theorem jmpAbs (addr : Word) : Statement (.jmpAbs addr) := of_operandBytes _ (Nat.le_refl 2)
theorem jmpInd (addr : Word) : Statement (.jmpInd addr) := of_operandBytes _ (Nat.le_refl 2)
theorem jsr (addr : Word) : Statement (.jsr addr) := of_operandBytes _ (Nat.le_refl 2)
theorem ldaImm (imm : Byte) : Statement (.ldaImm imm) := of_operandBytes _ (Nat.le_succ 1)
theorem ldaZp (zp : Byte) : Statement (.ldaZp zp) := of_operandBytes _ (Nat.le_succ 1)
theorem ldaZpX (zp : Byte) : Statement (.ldaZpX zp) := of_operandBytes _ (Nat.le_succ 1)
theorem ldaAbs (addr : Word) : Statement (.ldaAbs addr) := of_operandBytes _ (Nat.le_refl 2)
theorem ldaAbsX (addr : Word) : Statement (.ldaAbsX addr) := of_operandBytes _ (Nat.le_refl 2)
theorem ldaAbsY (addr : Word) : Statement (.ldaAbsY addr) := of_operandBytes _ (Nat.le_refl 2)
theorem ldaIzX (zp : Byte) : Statement (.ldaIzX zp) := of_operandBytes _ (Nat.le_succ 1)
theorem ldaIzY (zp : Byte) : Statement (.ldaIzY zp) := of_operandBytes _ (Nat.le_succ 1)
theorem ldxImm (imm : Byte) : Statement (.ldxImm imm) := of_operandBytes _ (Nat.le_succ 1)
theorem ldxZp (zp : Byte) : Statement (.ldxZp zp) := of_operandBytes _ (Nat.le_succ 1)
theorem ldxZpY (zp : Byte) : Statement (.ldxZpY zp) := of_operandBytes _ (Nat.le_succ 1)
theorem ldxAbs (addr : Word) : Statement (.ldxAbs addr) := of_operandBytes _ (Nat.le_refl 2)
theorem ldxAbsY (addr : Word) : Statement (.ldxAbsY addr) := of_operandBytes _ (Nat.le_refl 2)
theorem ldyImm (imm : Byte) : Statement (.ldyImm imm) := of_operandBytes _ (Nat.le_succ 1)
theorem ldyZp (zp : Byte) : Statement (.ldyZp zp) := of_operandBytes _ (Nat.le_succ 1)
theorem ldyZpX (zp : Byte) : Statement (.ldyZpX zp) := of_operandBytes _ (Nat.le_succ 1)
theorem ldyAbs (addr : Word) : Statement (.ldyAbs addr) := of_operandBytes _ (Nat.le_refl 2)
theorem ldyAbsX (addr : Word) : Statement (.ldyAbsX addr) := of_operandBytes _ (Nat.le_refl 2)
theorem lsrAcc : Statement (.lsrAcc) := of_operandBytes _ (Nat.zero_le 2)
theorem lsrZp (zp : Byte) : Statement (.lsrZp zp) := of_operandBytes _ (Nat.le_succ 1)
theorem lsrZpX (zp : Byte) : Statement (.lsrZpX zp) := of_operandBytes _ (Nat.le_succ 1)
theorem lsrAbs (addr : Word) : Statement (.lsrAbs addr) := of_operandBytes _ (Nat.le_refl 2)
theorem lsrAbsX (addr : Word) : Statement (.lsrAbsX addr) := of_operandBytes _ (Nat.le_refl 2)
theorem nop : Statement (.nop) := of_operandBytes _ (Nat.zero_le 2)
theorem oraImm (imm : Byte) : Statement (.oraImm imm) := of_operandBytes _ (Nat.le_succ 1)
theorem oraZp (zp : Byte) : Statement (.oraZp zp) := of_operandBytes _ (Nat.le_succ 1)
theorem oraZpX (zp : Byte) : Statement (.oraZpX zp) := of_operandBytes _ (Nat.le_succ 1)
theorem oraAbs (addr : Word) : Statement (.oraAbs addr) := of_operandBytes _ (Nat.le_refl 2)
theorem oraAbsX (addr : Word) : Statement (.oraAbsX addr) := of_operandBytes _ (Nat.le_refl 2)
theorem oraAbsY (addr : Word) : Statement (.oraAbsY addr) := of_operandBytes _ (Nat.le_refl 2)
theorem oraIzX (zp : Byte) : Statement (.oraIzX zp) := of_operandBytes _ (Nat.le_succ 1)
theorem oraIzY (zp : Byte) : Statement (.oraIzY zp) := of_operandBytes _ (Nat.le_succ 1)
theorem pha : Statement (.pha) := of_operandBytes _ (Nat.zero_le 2)
theorem php : Statement (.php) := of_operandBytes _ (Nat.zero_le 2)
theorem pla : Statement (.pla) := of_operandBytes _ (Nat.zero_le 2)
theorem plp : Statement (.plp) := of_operandBytes _ (Nat.zero_le 2)
theorem rolAcc : Statement (.rolAcc) := of_operandBytes _ (Nat.zero_le 2)
theorem rolZp (zp : Byte) : Statement (.rolZp zp) := of_operandBytes _ (Nat.le_succ 1)
theorem rolZpX (zp : Byte) : Statement (.rolZpX zp) := of_operandBytes _ (Nat.le_succ 1)
theorem rolAbs (addr : Word) : Statement (.rolAbs addr) := of_operandBytes _ (Nat.le_refl 2)
theorem rolAbsX (addr : Word) : Statement (.rolAbsX addr) := of_operandBytes _ (Nat.le_refl 2)
theorem rorAcc : Statement (.rorAcc) := of_operandBytes _ (Nat.zero_le 2)
theorem rorZp (zp : Byte) : Statement (.rorZp zp) := of_operandBytes _ (Nat.le_succ 1)
theorem rorZpX (zp : Byte) : Statement (.rorZpX zp) := of_operandBytes _ (Nat.le_succ 1)
theorem rorAbs (addr : Word) : Statement (.rorAbs addr) := of_operandBytes _ (Nat.le_refl 2)
theorem rorAbsX (addr : Word) : Statement (.rorAbsX addr) := of_operandBytes _ (Nat.le_refl 2)
theorem rti : Statement (.rti) := of_operandBytes _ (Nat.zero_le 2)
theorem rts : Statement (.rts) := of_operandBytes _ (Nat.zero_le 2)
theorem sbcImm (imm : Byte) : Statement (.sbcImm imm) := of_operandBytes _ (Nat.le_succ 1)
theorem sbcZp (zp : Byte) : Statement (.sbcZp zp) := of_operandBytes _ (Nat.le_succ 1)
theorem sbcZpX (zp : Byte) : Statement (.sbcZpX zp) := of_operandBytes _ (Nat.le_succ 1)
theorem sbcAbs (addr : Word) : Statement (.sbcAbs addr) := of_operandBytes _ (Nat.le_refl 2)
theorem sbcAbsX (addr : Word) : Statement (.sbcAbsX addr) := of_operandBytes _ (Nat.le_refl 2)
theorem sbcAbsY (addr : Word) : Statement (.sbcAbsY addr) := of_operandBytes _ (Nat.le_refl 2)
theorem sbcIzX (zp : Byte) : Statement (.sbcIzX zp) := of_operandBytes _ (Nat.le_succ 1)
theorem sbcIzY (zp : Byte) : Statement (.sbcIzY zp) := of_operandBytes _ (Nat.le_succ 1)
theorem sec : Statement (.sec) := of_operandBytes _ (Nat.zero_le 2)
theorem sed : Statement (.sed) := of_operandBytes _ (Nat.zero_le 2)
theorem sei : Statement (.sei) := of_operandBytes _ (Nat.zero_le 2)
theorem staZp (zp : Byte) : Statement (.staZp zp) := of_operandBytes _ (Nat.le_succ 1)
theorem staZpX (zp : Byte) : Statement (.staZpX zp) := of_operandBytes _ (Nat.le_succ 1)
theorem staAbs (addr : Word) : Statement (.staAbs addr) := of_operandBytes _ (Nat.le_refl 2)
theorem staAbsX (addr : Word) : Statement (.staAbsX addr) := of_operandBytes _ (Nat.le_refl 2)
theorem staAbsY (addr : Word) : Statement (.staAbsY addr) := of_operandBytes _ (Nat.le_refl 2)
theorem staIzX (zp : Byte) : Statement (.staIzX zp) := of_operandBytes _ (Nat.le_succ 1)
theorem staIzY (zp : Byte) : Statement (.staIzY zp) := of_operandBytes _ (Nat.le_succ 1)
theorem stxZp (zp : Byte) : Statement (.stxZp zp) := of_operandBytes _ (Nat.le_succ 1)
theorem stxZpY (zp : Byte) : Statement (.stxZpY zp) := of_operandBytes _ (Nat.le_succ 1)
theorem stxAbs (addr : Word) : Statement (.stxAbs addr) := of_operandBytes _ (Nat.le_refl 2)
theorem styZp (zp : Byte) : Statement (.styZp zp) := of_operandBytes _ (Nat.le_succ 1)
theorem styZpX (zp : Byte) : Statement (.styZpX zp) := of_operandBytes _ (Nat.le_succ 1)
theorem styAbs (addr : Word) : Statement (.styAbs addr) := of_operandBytes _ (Nat.le_refl 2)
theorem tax : Statement (.tax) := of_operandBytes _ (Nat.zero_le 2)
theorem tay : Statement (.tay) := of_operandBytes _ (Nat.zero_le 2)
theorem tsx : Statement (.tsx) := of_operandBytes _ (Nat.zero_le 2)
theorem txa : Statement (.txa) := of_operandBytes _ (Nat.zero_le 2)
theorem txs : Statement (.txs) := of_operandBytes _ (Nat.zero_le 2)
theorem tya : Statement (.tya) := of_operandBytes _ (Nat.zero_le 2)
theorem undefined (op : Byte) : Statement (.undefined op) := of_operandBytes _ (Nat.zero_le 2)

end Sys2Proof.Laws.EncodeLength
end

