-- ==== Sys2Proof/Laws/Step.lean ====
section
/-! SUPPORT. What one step can do: one inversion lemma each for the counters, the renderer, the PPU step, the
instructions that answer a next state, the host's turns and the step of the whole core. -/

namespace Sys2Proof.Machine

variable {s t : State}

/-- The three ways the counters move (R271 to R273). -/
theorem tick_cases (s : State) :
    (∃ h : s.ppuCycles.val < 340, tick s = s.setPpuCycles ⟨s.ppuCycles.val + 1, by omega⟩) ∨
    (s.ppuCycles = 340 ∧ s.scanline < 261 ∧ tick s = (s.setPpuCycles 0).setScanline (s.scanline + 1)) ∨
    (s.ppuCycles = 340 ∧ 261 ≤ s.scanline ∧
      tick s = ((s.setPpuCycles 0).setScanline 0).setFrameCount (s.frameCount + 1)) := by
  unfold tick
  split_ifs with h1 h2
  · exact .inr (.inr ⟨Fin.ext (by simp; omega), by omega, rfl⟩)
  · exact .inr (.inl ⟨Fin.ext (by simp; omega), by omega, rfl⟩)
  · exact .inl ⟨by omega, rfl⟩

/-- A rendered pixel is a write to a row of the framebuffer (R300, R301). -/
theorem renderPixel_next {x y : Nat} (h : renderPixel x y s = .next t) :
    scrolledRow y s ≤ 239 ∧
      t = s.setScreen (s.screen.write x (scrolledRow y s) (pixelColour x (scrolledRow y s) s)) := by
  unfold renderPixel at h
  simp only at h
  split_ifs at h with hy
  · exact ⟨by omega, (Host.Outcome.next.inj h).symm⟩

/-- The position of a Visible dot (R275). -/
theorem classify_visible {sl c : Nat} : classify sl c = .render .visible ↔ sl ≤ 239 ∧ 1 ≤ c ∧ c ≤ 256 := by
  unfold classify
  split_ifs <;> simp <;> omega

/-- What a PPU step that completes can do (R283). -/
theorem ppuStep_next (h : ppuStep s = .next t) :
    t = tick s ∨
    ((tick s).scanline = 241 ∧ (tick s).ppuCycles = 0 ∧ t = enterVBlank (tick s)) ∨
    ((tick s).scanline ≤ 239 ∧ 1 ≤ (tick s).ppuCycles.val ∧ (tick s).ppuCycles.val ≤ 256 ∧
      renderPixel ((tick s).ppuCycles.val - 1) (tick s).scanline (tick s) = .next t) := by
  unfold ppuStep at h
  simp only at h
  split at h
  · next hv => exact .inr (.inr ⟨(classify_visible.mp hv).1, (classify_visible.mp hv).2.1,
      (classify_visible.mp hv).2.2, h⟩)
  · split_ifs at h with he
    · exact .inr (.inl ⟨he.1, he.2, (Host.Outcome.next.inj h).symm⟩)
    · exact .inl (Host.Outcome.next.inj h).symm
  all_goals first | exact .inl (Host.Outcome.next.inj h).symm | exact nomatch h

/-- A host turn that completes is the PPU's `reset()` or a store to one key (R352). -/
theorem hostAct_next {action : HostAction} (h : hostAct action s = .next t) :
    (action = .resetPpu ∧ t = resetPpu s) ∨ ∃ (k : Key) (v : k.Val), t = s.store k v := by
  cases action with
  | resetPpu => exact .inl ⟨rfl, (Host.Outcome.next.inj h).symm⟩
  | storePpuCycles v =>
    simp only [hostAct] at h
    split at h
    · exact .inr ⟨_, _, (Host.Outcome.next.inj h).symm⟩
    · exact nomatch h
  | storeScanline v =>
    simp only [hostAct] at h
    split at h
    · exact .inr ⟨.ppuRegister .scanline, v, (Host.Outcome.next.inj h).symm⟩
    · exact nomatch h
  | _ => exact .inr ⟨_, _, (Host.Outcome.next.inj h).symm⟩

/-- The three ways the schedule names a next turn (R347; log 7). -/
theorem nextTurn_cases (s : State) :
    (∃ turn rest, s.turns = turn :: rest ∧ s.nextTurn = (turn, rest)) ∨
    (s.turns = [] ∧ ∃ turn rest, s.cycle = turn :: rest ∧ s.nextTurn = (turn, rest)) ∨
    (s.turns = [] ∧ s.cycle = [] ∧ s.nextTurn = (.cpu, [])) := by
  unfold State.nextTurn
  split
  · next turn rest h => exact .inl ⟨turn, rest, h, rfl⟩
  · next h =>
    refine .inr ?_
    split
    · next turn rest hc => exact .inl ⟨h, turn, rest, hc, rfl⟩
    · next hc => exact .inr ⟨h, hc, rfl⟩

/-- A turn that completes is taken with no fault on record, and is an engine's step or a host action (R315, R347). -/
theorem act_next {turn : Turn} (h : act turn s = .next t) :
    s.faultRecord = none ∧
      ((turn = .cpu ∧ cpuStep s = .next t) ∨ (turn = .ppu ∧ ppuStep s = .next t) ∨
        ∃ action, turn = .host action ∧ hostAct action s = .next t) := by
  unfold act at h
  split at h
  · exact nomatch h
  · next hf =>
    refine ⟨hf, ?_⟩
    split at h
    · exact .inl ⟨rfl, h⟩
    · exact .inr (.inl ⟨rfl, h⟩)
    · next action => exact .inr (.inr ⟨action, rfl, h⟩)

/-- A step that completes is the next turn, taken from a state with no fault on record. -/
theorem step_next (h : step s = .next t) :
    s.faultRecord = none ∧ ∃ turn rest, s.nextTurn = (turn, rest) ∧
      ((turn = .cpu ∧ cpuStep (s.setTurns rest) = .next t) ∨
        (turn = .ppu ∧ ppuStep (s.setTurns rest) = .next t) ∨
        ∃ action, turn = .host action ∧ hostAct action (s.setTurns rest) = .next t) :=
  ⟨(act_next h).1, _, _, rfl, (act_next h).2⟩

/-- The instructions that answer a next state, by what they do to the state (R95, R139). -/
theorem exec_next {i : Instr} (h : exec i s = .next t) :
    (∃ mn f want rel, t = branchIf f want (relativeTarget s.pc rel) (s.advance .relative mn) ∧
      (i = .bcc rel ∨ i = .bcs rel ∨ i = .beq rel ∨ i = .bne rel)) ∨
    (∃ mn b, t = (s.advance .implied mn).setFlag .c b ∧ (i = .clc ∨ i = .sec)) ∨
    (∃ addr, t = (s.advance .absolute .jmp).setPc addr ∧ i = .jmpAbs addr) ∨
    (∃ addr, t = callTo addr (s.advance .absolute .jsr) ∧ i = .jsr addr) ∨
    (∃ mode v, t = loadA v (s.advance mode .lda) ∧
      ((∃ imm, i = .ldaImm imm) ∨ (∃ zp, i = .ldaZp zp) ∨ ∃ addr, i = .ldaAbs addr)) ∨
    (∃ mode v, t = loadX v (s.advance mode .ldx) ∧
      ((∃ imm, i = .ldxImm imm) ∨ (∃ zp, i = .ldxZp zp) ∨ ∃ addr, i = .ldxAbs addr)) ∨
    (∃ mode mn ea v, t = (s.advance mode mn).writeCpu ea v ∧
      ((∃ zp, i = .staZp zp ∨ i = .stxZp zp ∨ i = .styZp zp) ∨
        ∃ addr, i = .staAbs addr ∨ i = .stxAbs addr ∨ i = .styAbs addr)) ∨
    (t = s.advance .implied .nop ∧ i = .nop) := by
  cases i
  case bcc rel => exact .inl ⟨_, _, _, rel, (Host.Outcome.next.inj h).symm, .inl rfl⟩
  case bcs rel => exact .inl ⟨_, _, _, rel, (Host.Outcome.next.inj h).symm, .inr (.inl rfl)⟩
  case beq rel => exact .inl ⟨_, _, _, rel, (Host.Outcome.next.inj h).symm, .inr (.inr (.inl rfl))⟩
  case bne rel => exact .inl ⟨_, _, _, rel, (Host.Outcome.next.inj h).symm, .inr (.inr (.inr rfl))⟩
  case clc => exact .inr (.inl ⟨_, _, (Host.Outcome.next.inj h).symm, .inl rfl⟩)
  case sec => exact .inr (.inl ⟨_, _, (Host.Outcome.next.inj h).symm, .inr rfl⟩)
  case jmpAbs addr => exact .inr (.inr (.inl ⟨_, (Host.Outcome.next.inj h).symm, rfl⟩))
  case jsr addr => exact .inr (.inr (.inr (.inl ⟨_, (Host.Outcome.next.inj h).symm, rfl⟩)))
  case ldaImm imm | ldaZp zp | ldaAbs addr =>
    exact .inr (.inr (.inr (.inr (.inl ⟨_, _, (Host.Outcome.next.inj h).symm, by simp⟩))))
  case ldxImm imm | ldxZp zp | ldxAbs addr =>
    exact .inr (.inr (.inr (.inr (.inr (.inl ⟨_, _, (Host.Outcome.next.inj h).symm, by simp⟩)))))
  case staZp zp | staAbs addr | stxZp zp | stxAbs addr | styZp zp | styAbs addr =>
    exact .inr (.inr (.inr (.inr (.inr (.inr (.inl
      ⟨_, _, _, _, (Host.Outcome.next.inj h).symm, by simp⟩))))))
  case nop => exact .inr (.inr (.inr (.inr (.inr (.inr (.inr ⟨(Host.Outcome.next.inj h).symm, rfl⟩))))))
  all_goals exact nomatch h

/-- The byte that selects the instruction is its opcode byte (R90). -/
theorem opcode_decodeBytes (b0 b1 b2 : Byte) : (decodeBytes b0 b1 b2).opcode = b0 := by
  have h : b0 = BitVec.ofNat 8 b0.toNat := by simp
  have hn : b0.toNat < 256 := b0.isLt
  generalize b0.toNat = n at h hn
  subst h
  interval_cases n <;> rfl

end Sys2Proof.Machine
end

