-- ==== Sys2Proof/Tests/Slice0.lean ====
section
/-! SUPPORT. Tests: ill-formed terms, words of every family written out from 30_encoding.md R94, single steps whose
expected results are the vectors of 95_test_vectors.md (named in each comment), and for every statement with hypotheses
a witness that meets them all. -/

namespace Sys2Proof.Tests.Slice0

open Sys2Proof Sys2Proof.Machine

/-! ## Helpers -/

/-- Store bytes to CPU memory from an address up. -/
def poke (addr : Word) : List Byte → State → State
  | [], s => s
  | b :: bs, s => poke (addr + 1) bs (s.writeCpu addr b)

/-- The reset state with a program placed at Pc. -/
def at' (pc : Word) (bs : List Byte) : State := poke pc bs (State.reset.setPc pc)

/-- A PPU position. -/
def dotAt (scanline : Nat) (dot : Fin 341) : State := (State.reset.setScanline scanline).setPpuCycles dot

/-- Store one byte to PPU memory. -/
def pokePpu (addr : Word) (v : Byte) (s : State) : State := s.setPpuMem (s.ppuMem.write addr v)

/-- The outcome is a next state of which `f` is true. -/
def nextHas (o : Result) (f : State → Bool) : Bool :=
  match o with
  | .next t => f t
  | .fault _ | .refused _ => false

/-- The outcome is this fault. -/
def faultIs (o : Result) (f : Fault) : Bool :=
  match o with
  | .fault g => decide (g = f)
  | .next _ | .refused _ => false

/-- The outcome is this refusal. -/
def refusalIs (o : Result) (r : Refusal) : Bool :=
  match o with
  | .refused q => decide (q = r)
  | .next _ | .fault _ => false

/-- The decoder answers this instruction and nothing is left over. -/
def decodesTo (bs : List Byte) (i : Instr) : Bool :=
  match decode bs with
  | .ok (j, rest) => decide (j = i) && rest.isEmpty
  | .error _ => false

/-! ## WellFormed (R97): the one check, that `undefined` carries a byte with no Instruction -/

theorem test_wellFormed_refuses_a_defined_byte : (Instr.undefined 0xA9#8).wellFormed = false := by decide

theorem test_wellFormed_accepts_an_undefined_byte : (Instr.undefined 0xFF#8).wellFormed = true := by decide

/-! ## Words from the encodings of R90, R91, R94 -/

theorem test_decode_branches :
    (decodesTo [0x90#8, 0x7F#8] (.bcc 0x7F#8) && decodesTo [0xB0#8, 0x80#8] (.bcs 0x80#8) &&
      decodesTo [0xF0#8, 0x02#8] (.beq 0x02#8) && decodesTo [0xD0#8, 0xFE#8] (.bne 0xFE#8)) = true := by decide

theorem test_decode_flagOps : (decodesTo [0x18#8] .clc && decodesTo [0x38#8] .sec) = true := by decide

theorem test_decode_jumps :
    (decodesTo [0x4C#8, 0x05#8, 0x80#8] (.jmpAbs 0x8005#16) &&
      decodesTo [0x20#8, 0x34#8, 0x12#8] (.jsr 0x1234#16)) = true := by decide

theorem test_decode_loads :
    (decodesTo [0xA9#8, 0x80#8] (.ldaImm 0x80#8) && decodesTo [0xA5#8, 0x10#8] (.ldaZp 0x10#8) &&
      decodesTo [0xAD#8, 0x05#8, 0x80#8] (.ldaAbs 0x8005#16) && decodesTo [0xA2#8, 0x03#8] (.ldxImm 0x03#8) &&
      decodesTo [0xA6#8, 0x10#8] (.ldxZp 0x10#8) && decodesTo [0xAE#8, 0x05#8, 0x80#8] (.ldxAbs 0x8005#16)) = true := by
  decide

theorem test_decode_stores :
    (decodesTo [0x85#8, 0xFF#8] (.staZp 0xFF#8) && decodesTo [0x8D#8, 0x00#8, 0x02#8] (.staAbs 0x0200#16) &&
      decodesTo [0x86#8, 0x10#8] (.stxZp 0x10#8) && decodesTo [0x8E#8, 0x34#8, 0x12#8] (.stxAbs 0x1234#16) &&
      decodesTo [0x84#8, 0x10#8] (.styZp 0x10#8) && decodesTo [0x8C#8, 0x34#8, 0x12#8] (.styAbs 0x1234#16)) = true := by
  decide

theorem test_decode_nop_and_bit :
    (decodesTo [0xEA#8] .nop && decodesTo [0x24#8, 0x00#8] (.bitZp 0x00#8) &&
      decodesTo [0x2C#8, 0x00#8, 0x02#8] (.bitAbs 0x0200#16)) = true := by decide

theorem test_decode_unimplemented :
    (decodesTo [0x69#8, 0x01#8] (.adcImm 0x01#8) && decodesTo [0x60#8] .rts && decodesTo [0x40#8] .rti &&
      decodesTo [0x00#8] .brk && decodesTo [0xE8#8] .inx && decodesTo [0xA0#8, 0x01#8] (.ldyImm 0x01#8)) = true := by
  decide

theorem test_decode_unhandled_modes :
    (decodesTo [0x7D#8, 0x34#8, 0x12#8] (.adcAbsX 0x1234#16) && decodesTo [0x0A#8] .aslAcc &&
      decodesTo [0x6C#8, 0x00#8, 0x02#8] (.jmpInd 0x0200#16) && decodesTo [0x96#8, 0x10#8] (.stxZpY 0x10#8) &&
      decodesTo [0xB1#8, 0x10#8] (.ldaIzY 0x10#8) && decodesTo [0xA1#8, 0x10#8] (.ldaIzX 0x10#8)) = true := by decide

theorem test_decode_undefined :
    (decodesTo [0x02#8] (.undefined 0x02#8) && decodesTo [0x1A#8] (.undefined 0x1A#8) &&
      decodesTo [0xFA#8] (.undefined 0xFA#8)) = true := by decide

/-- Every constructor but `undefined` is what some opcode byte decodes to, and an encoding begins with that byte
(R93, R94): 256 bytes, the sixteen rows of the matrix. -/
theorem test_decode_every_byte_encodes_back :
    ((List.range 256).all fun n =>
      decide ((decodeBytes (BitVec.ofNat 8 n) 0x34#8 0x12#8).opcode = BitVec.ofNat 8 n)) = true := by decide +kernel

/-- The constructors agree with the matrix of R94 transcribed a second time as pairs of mnemonic and mode. -/
theorem test_decode_every_byte_agrees_with_the_matrix :
    ((List.range 256).all fun n =>
      let i := decodeBytes (BitVec.ofNat 8 n) 0x34#8 0x12#8
      decide (opcodeMap (BitVec.ofNat 8 n) = i.mnemonic?.bind fun mn => i.mode?.map fun mode => (mn, mode))) = true := by
  decide +kernel

theorem test_decode_truncated : (match decode [0xAD#8, 0x05#8] with
    | .error (.truncated op) => decide (op = 0xAD#8)
    | .error .noBytes | .ok _ => false) = true := by decide

theorem test_decodeTableWord : decodeTableWord 16 0x80A9 = some (.ldaImm 0x80#8) := by decide

theorem test_decodeTableWord_zero_operand : decodeTableWord 8 0x4C = some (.jmpAbs 0x0000#16) := by decide

theorem test_withFetchWord_runs_it :
    nextHas (step (State.reset.withFetchWord 16 0x80A9)) (fun t => t.a = 0x80#8 ∧ t.pc = 2#16) = true := by decide

/-- The CPU moves first whatever the schedule, and the schedule is then as it was. -/
theorem test_withFetchWord_puts_the_cpu_first :
    nextHas (step ((State.reset.setCycle [.ppu]).withFetchWord 16 0x80A9))
      (fun t => t.a = 0x80#8 ∧ t.nextTurn = (.ppu, [])) = true := by decide

theorem test_decode_rejects_one_byte_of_two : decodesTo [0xA9#8] (.ldaImm 0x00#8) = false := by decide

/-! ## CPU steps -/

/-- V-A1. -/
theorem test_nop_wraps_pc : nextHas (step (at' 0xFFFF#16 [0xEA#8])) (fun t => t.pc = 0x0000#16) = true := by decide

/-- V-A2. -/
theorem test_jmp_operand_wraps :
    nextHas (step (at' 0xFFFE#16 [0x4C#8, 0x34#8, 0x12#8])) (fun t => t.pc = 0x1234#16) = true := by decide

/-- V-A3. -/
theorem test_lda_immediate_wraps : nextHas (step (at' 0xFFFF#16 [0xA9#8, 0x80#8]))
    (fun t => t.a = 0x80#8 ∧ t.p = 0x80#8 ∧ t.pc = 0x0001#16) = true := by decide

/-- V-A4. -/
theorem test_bne_backward_wraps :
    nextHas (step (at' 0x0000#16 [0xD0#8, 0x80#8])) (fun t => t.pc = 0xFF82#16) = true := by decide

/-- V-A5. -/
theorem test_bcc_forward_wraps :
    nextHas (step (at' 0xFFF0#16 [0x90#8, 0x7F#8])) (fun t => t.pc = 0x0071#16) = true := by decide

/-- V-A6. -/
theorem test_lda_zeroPage_zero_extends :
    nextHas (step (poke 0xFF80#16 [0x99#8] (poke 0x0080#16 [0x33#8] (at' 0xC000#16 [0xA5#8, 0x80#8]))))
      (fun t => t.a = 0x33#8 ∧ t.pc = 0xC002#16) = true := by decide

/-- V-A9. -/
theorem test_accesses_of_lda_absolute : cpuAccesses (at' 0xC000#16 [0xAD#8, 0x05#8, 0x80#8]) =
    [.cpuRead 0xC000#16, .cpuRead 0xC001#16, .cpuRead 0xC002#16, .cpuRead 0x8005#16] := by decide

/-- V-B11. -/
theorem test_bcc_taken : nextHas (step ((at' 0xC000#16 [0x90#8, 0x05#8]).setP 0xFE#8))
    (fun t => t.pc = 0xC007#16 ∧ t.p = 0xFE#8) = true := by decide

/-- V-B3, V-B4. -/
theorem test_bcs : (nextHas (step ((at' 0xC000#16 [0xB0#8, 0x05#8]).setP 0x01#8)) (fun t => t.pc = 0xC007#16) &&
    nextHas (step ((at' 0xC000#16 [0xB0#8, 0x05#8]).setP 0x00#8)) (fun t => t.pc = 0xC002#16)) = true := by decide

/-- V-B5, V-B10. -/
theorem test_beq : (nextHas (step ((at' 0xC000#16 [0xF0#8, 0x05#8]).setP 0x02#8)) (fun t => t.pc = 0xC007#16) &&
    nextHas (step ((at' 0xC000#16 [0xF0#8, 0xFE#8]).setP 0x80#8)) (fun t => t.pc = 0xC002#16)) = true := by decide

/-- V-B8. -/
theorem test_bne_not_taken :
    nextHas (step ((at' 0xC000#16 [0xD0#8, 0x05#8]).setP 0x02#8)) (fun t => t.pc = 0xC002#16) = true := by decide

/-- V-F5. -/
theorem test_sec : nextHas (step ((at' 0x8000#16 [0x38#8]).setP 0x82#8))
    (fun t => t.p = 0x83#8 ∧ t.pc = 0x8001#16) = true := by decide

/-- V-F2. -/
theorem test_clc : nextHas (step ((at' 0x8000#16 [0x18#8]).setP 0xFF#8)) (fun t => t.p = 0xFE#8) = true := by decide

/-- V-J3. -/
theorem test_jsr : nextHas (step ((at' 0xC000#16 [0x20#8, 0x10#8, 0xC0#8]).setSp 0xFD#8))
    (fun t => t.readCpu 0x01FD#16 = 0xBF#8 ∧ t.readCpu 0x01FC#16 = 0xFF#8 ∧ t.sp = 0xFB#8 ∧ t.pc = 0xC010#16) = true := by
  decide

/-- V-J5: the stack wraps within page 0x01. -/
theorem test_jsr_stack_wraps : nextHas (step ((at' 0x0300#16 [0x20#8, 0x00#8, 0x80#8]).setSp 0x01#8))
    (fun t => t.readCpu 0x0101#16 = 0x02#8 ∧ t.readCpu 0x0100#16 = 0xFF#8 ∧ t.sp = 0xFF#8) = true := by decide

/-- V-L1, V-L2. -/
theorem test_lda_immediate_flags :
    (nextHas (step ((at' 0xC000#16 [0xA9#8, 0x00#8]).setP 0x7D#8)) (fun t => t.a = 0x00#8 ∧ t.p = 0x7F#8) &&
      nextHas (step ((at' 0xC000#16 [0xA9#8, 0x80#8]).setP 0x7D#8)) (fun t => t.p = 0xFD#8)) = true := by decide

/-- V-L6. -/
theorem test_ldx_absolute : nextHas (step (at' 0xC000#16 [0xAE#8, 0x05#8, 0x80#8]))
    (fun t => t.x = 0x00#8 ∧ t.p = 0x02#8 ∧ t.pc = 0xC003#16) = true := by decide

/-- V-L7. -/
theorem test_ldx_zeroPage :
    nextHas (step (poke 0x0010#16 [0x03#8] ((at' 0xC000#16 [0xA6#8, 0x10#8]).setP 0x82#8)))
      (fun t => t.x = 0x03#8 ∧ t.p = 0x00#8 ∧ t.a = 0x00#8) = true := by decide

/-- P1, step 1. -/
theorem test_ldx_immediate : nextHas (step ((at' 0xC000#16 [0xA2#8, 0x03#8]).setA 0x55#8))
    (fun t => t.x = 0x03#8 ∧ t.a = 0x55#8 ∧ t.pc = 0xC002#16) = true := by decide

/-- V-S4: an instruction overwrites its own opcode. -/
theorem test_sta_absolute : nextHas (step ((at' 0xC000#16 [0x8D#8, 0x00#8, 0xC0#8]).setA 0x4C#8))
    (fun t => t.readCpu 0xC000#16 = 0x4C#8 ∧ t.pc = 0xC003#16) = true := by decide

/-- V-S6. -/
theorem test_sta_zeroPage : nextHas (step ((at' 0xC000#16 [0x85#8, 0xFF#8]).setA 0x12#8))
    (fun t => t.readCpu 0x00FF#16 = 0x12#8 ∧ t.pc = 0xC002#16) = true := by decide

/-- V-S2. -/
theorem test_stx_zeroPage : nextHas (step ((at' 0xC000#16 [0x86#8, 0x10#8]).setX 0x03#8))
    (fun t => t.readCpu 0x0010#16 = 0x03#8) = true := by decide

/-- R201 in mode Absolute (encoding of R95). -/
theorem test_stx_absolute : nextHas (step ((at' 0xC000#16 [0x8E#8, 0x34#8, 0x12#8]).setX 0x03#8))
    (fun t => t.readCpu 0x1234#16 = 0x03#8 ∧ t.pc = 0xC003#16) = true := by decide

/-- V-S3. -/
theorem test_sty_zeroPage : nextHas (step (((at' 0xC000#16 [0x84#8, 0x10#8]).setY 0x5A#8).setP 0xFF#8))
    (fun t => t.readCpu 0x0010#16 = 0x5A#8 ∧ t.p = 0xFF#8) = true := by decide

/-- R202 in mode Absolute (encoding of R95). -/
theorem test_sty_absolute : nextHas (step ((at' 0xC000#16 [0x8C#8, 0x34#8, 0x12#8]).setY 0x5A#8))
    (fun t => t.readCpu 0x1234#16 = 0x5A#8) = true := by decide

/-- V-N2. -/
theorem test_bit_faults : faultIs (step (at' 0xC002#16 [0x24#8, 0x00#8]))
    (.unimplementedFeature .bitStub 0xC002#16 0x24#8) = true := by decide

/-- V-U1, V-U2, V-U3, V-U5. -/
theorem test_unimplemented_kinds :
    (faultIs (step (at' 0xC000#16 [0x69#8])) (.unimplementedFeature .unimplementedMnemonic 0xC000#16 0x69#8) &&
      faultIs (step (at' 0xC000#16 [0x7D#8])) (.unimplementedFeature .unhandledAddressingMode 0xC000#16 0x7D#8) &&
      faultIs (step (at' 0xC000#16 [0x02#8])) (.unimplementedFeature .undefinedOpcode 0xC000#16 0x02#8) &&
      faultIs (step (at' 0xC000#16 [0x0A#8])) (.unimplementedFeature .unhandledAddressingMode 0xC000#16 0x0A#8)) =
      true := by decide

/-- V-K2. -/
theorem test_push16_pop16_wrap :
    (let t := push16 0xBEEF#16 State.reset
     t.readCpu 0x0100#16 = 0xBE#8 ∧ t.readCpu 0x01FF#16 = 0xEF#8 ∧ t.sp = 0xFE#8 ∧
       (pop16 t).1 = 0xBEEF#16 ∧ (pop16 t).2.sp = 0x00#8) := by decide

/-- V-M3. -/
theorem test_word_load_wraps : (poke 0xFFFF#16 [0xCD#8, 0xAB#8] State.reset).readCpuWord 0xFFFF#16 = 0xABCD#16 := by
  decide

/-! ## PPU steps and the host -/

/-- V-P3, first row. -/
theorem test_vblank_entry : nextHas (ppuStep (State.reset.setGenerateNmi true))
    (fun t => t.scanline = 241 ∧ t.ppuCycles = 0 ∧ t.verticalBlank = true ∧ t.latch = .nmi ∧ t.frameCount = 0) = true := by
  decide

/-- V-P8, and V-P7: ClearVBlank does not clear VerticalBlank. -/
theorem test_frame_wraps_and_vblank_stays :
    (nextHas (ppuStep ((dotAt 261 340).setFrameCount 9))
        (fun t => t.scanline = 0 ∧ t.ppuCycles = 0 ∧ t.frameCount = 10) &&
      nextHas (ppuStep ((dotAt 261 0).setVerticalBlank true))
        (fun t => t.ppuCycles = 1 ∧ t.verticalBlank = true)) = true := by decide

/-- The registers and PPU memory of V-R1, at the dot that renders pixel (13, 100). -/
def rendererVector : State :=
  pokePpu 0x21A1#16 0x42#8 (pokePpu 0x1421#16 0x04#8 (pokePpu 0x3F01#16 0x6A#8
    ((((dotAt 100 13).setScrollY 5#8).setNameTableAddr 0x2000#16).setBackgroundTableAddr 0x1000#16)))

/-- V-R1: `Screen[13, 105] = PALETTE[0x2A]`. -/
theorem test_render_pixel :
    ppuStep rendererVector =
      .next ((rendererVector.setPpuCycles 14).setScreen [(256 * 105 + 13, Config.palette 0x2A#6)]) := by rfl

/-- V-R6: the byte at `pa + 8` is the high plane. -/
theorem test_render_high_plane :
    patternPixel 13 105 (pokePpu 0x1421#16 0x00#8 (pokePpu 0x1429#16 0x04#8 rendererVector)) = 2 := by decide

/-- V-R4. -/
theorem test_render_row_240_faults :
    faultIs (ppuStep ((dotAt 235 0).setScrollY 5#8)) (.framebufferRow 0 240) = true := by decide

/-- V-P12. -/
theorem test_host_scanline_refused :
    refusalIs (hostAct (.storeScanline 262) State.reset) (.hostStoreOutOfRange .scanline 262) = true := by decide

/-- R351 at `haltPc = some 0xC00E` (V-X5): over whatever CPU turns are listed. -/
theorem test_ended_with_cpu_turns_left :
    (((State.reset.setPc 0xC00E#16).setTurns [.cpu]).setCycle [.cpu]).EndedWell (some 0xC00E#16) := by decide

/-- R351: not over while the host means to take a PPU step, and not at another Pc. -/
theorem test_not_ended :
    ¬ ((State.reset.setPc 0xC00E#16).setTurns [.cpu, .ppu]).EndedWell (some 0xC00E#16) ∧
    ¬ (State.reset.setPc 0xC00D#16).EndedWell (some 0xC00E#16) := by decide

/-! ## Witnesses: for every statement with hypotheses, values that meet them all -/

theorem test_meets_DecodeOfEncode : ∃ i : Instr, i.wellFormed = true := ⟨.jsr 0xC010#16, rfl⟩

/-- Formats of each length, at the shortest list that is accepted. -/
theorem test_meets_EncodeOfDecode :
    (∃ bs rest i, decode bs = .ok (i, rest) ∧ rest = [0xEA#8]) ∧
    formatLength 0xEA#8 = 1 ∧ formatLength 0x02#8 = 1 ∧ formatLength 0xA9#8 = 2 ∧ formatLength 0x6C#8 = 3 :=
  ⟨⟨[0xA9#8, 0x10#8, 0xEA#8], _, .ldaImm 0x10#8, rfl, rfl⟩, by decide⟩

theorem test_meets_CompletesExactly :
    (∃ (i : Instr) (s t : State), i.wellFormed = true ∧ exec i s = .next t) ∧
    (∃ i : Instr, i.wellFormed = true ∧ i.opcode ∉ admittedOpcodes) :=
  ⟨⟨.nop, State.reset, _, rfl, rfl⟩, .brk, rfl, by decide⟩

theorem test_meets_StepRuns :
    (∃ (s : State) (i : Instr) (rest : List Byte), s.faultRecord = none ∧
      decode [s.readCpu s.pc, s.readCpu (s.pc + 1), s.readCpu (s.pc + 2)] = .ok (i, rest) ∧
      s.turns = [] ∧ s.cycle = []) ∧
    (∃ (s : State) (i : Instr) (rest : List Byte), s.faultRecord = none ∧
      decode [s.readCpu s.pc, s.readCpu (s.pc + 1), s.readCpu (s.pc + 2)] = .ok (i, rest) ∧
      s.turns = [] ∧ s.cycle = [.cpu, .ppu]) ∧
    (∃ (s : State) (i : Instr) (rest : List Byte), s.faultRecord = none ∧
      decode [s.readCpu s.pc, s.readCpu (s.pc + 1), s.readCpu (s.pc + 2)] = .ok (i, rest) ∧ s.turns = [.cpu, .ppu]) :=
  ⟨⟨at' 0xC000#16 [0xA9#8, 0x01#8], .ldaImm 0x01#8, _, rfl, rfl, rfl, rfl⟩,
    ⟨(at' 0xC000#16 [0xA9#8, 0x01#8]).setCycle [.cpu, .ppu], .ldaImm 0x01#8, _, rfl, rfl, rfl, rfl⟩,
    (at' 0xFFFE#16 [0x4C#8, 0x34#8, 0x12#8]).setTurns [.cpu, .ppu], .jmpAbs 0x1234#16, _, rfl, rfl, rfl⟩

theorem test_meets_StepTakesTheOtherTurns :
    (∃ s : State, s.faultRecord = none ∧ s.turns = [.ppu, .cpu]) ∧
    (∃ s : State, s.faultRecord = none ∧ s.turns = [] ∧ s.cycle = [.ppu]) ∧
    (∃ s : State, s.faultRecord = none ∧ s.turns = [.host .resetPpu]) ∧
    (∃ s : State, s.faultRecord = none ∧ s.turns = [] ∧ s.cycle = [.host .resetPpu, .cpu]) :=
  ⟨⟨State.reset.setTurns [.ppu, .cpu], rfl, rfl⟩, ⟨State.reset.setCycle [.ppu], rfl, rfl, rfl⟩,
    ⟨State.reset.setTurns [.host .resetPpu], rfl, rfl⟩, State.reset.setCycle [.host .resetPpu, .cpu], rfl, rfl, rfl⟩

/-- Also for CpuStepLeavesTheRestAlone (with the state itself as the second state for its second clause). -/
theorem test_meets_CpuStepAccessesReplay :
    ∃ s t : State, cpuStep s = .next t ∧ t.readCpu 0x0200#16 = 0x55#8 ∧ SameCpu s s :=
  ⟨(at' 0xC000#16 [0x8D#8, 0x00#8, 0x02#8]).setA 0x55#8, _, rfl, by decide, ⟨rfl, rfl, rfl, rfl, rfl, rfl, rfl⟩⟩

/-- Two states with one CPU part that differ in the latch. -/
theorem test_meets_SameCpu : ∃ s u t : State, SameCpu s u ∧ cpuStep s = .next t ∧ u.latch ≠ s.latch :=
  ⟨at' 0xC000#16 [0xEA#8], (at' 0xC000#16 [0xEA#8]).setLatch .nmi, _, ⟨rfl, rfl, rfl, rfl, rfl, rfl, rfl⟩, rfl, nofun⟩

theorem test_meets_CpuStepReads : ∃ (s : State) (m : Memory),
    (∀ addr, .cpuRead addr ∈ cpuAccesses s → m.read addr = s.readCpu addr) ∧ m ≠ s.cpuMem :=
  ⟨at' 0xC000#16 [0xEA#8], (at' 0xC000#16 [0xEA#8]).cpuMem.write 0x1234#16 0x01#8, by
    have h : cpuAccesses (at' 0xC000#16 [0xEA#8]) = [.cpuRead 0xC000#16] := by decide
    intro addr ha
    rw [h] at ha
    simp only [List.mem_singleton, Access.cpuRead.injEq] at ha
    subst ha
    decide, by decide⟩

/-- The byte right after the instruction, across the top of memory for the absolute forms; and JSR to the two cells it
writes. -/
theorem test_meets_StoreIsSeen :
    (∃ (s : State) (addr : Word), addr = s.pc + 3 ∧ addr = 0x0000#16) ∧
    (∃ (s : State) (zp : Byte), zeroPageAddr zp = s.pc + 2 ∧ zp = 0xFF#8) ∧
    (∃ (s : State) (a b : Word), a = stackAddr s.sp ∧ b = stackAddr (s.sp - 1) ∧ a ≠ b) :=
  ⟨⟨State.reset.setPc 0xFFFD#16, _, rfl, rfl⟩, ⟨State.reset.setPc 0x00FD#16, 0xFF#8, rfl, rfl⟩,
    State.reset, 0x0100#16, 0x01FF#16, rfl, rfl, by decide⟩

theorem test_meets_FlagAccess : ∃ f g : Flag, g ≠ f := ⟨.z, .n, nofun⟩

theorem test_meets_Push16 : ∃ (s : State) (addr : Word), addr ≠ BitVec.ofNat 16 (0x0100 + s.sp.toNat) ∧
    addr ≠ BitVec.ofNat 16 (0x0100 + (s.sp.toNat + 255) % 256) :=
  ⟨State.reset, 0x0101#16, by decide, by decide⟩

theorem test_meets_DeltaTable : ∃ mn mn' : Mnemonic, (mn = .jmp ∨ mn = .jsr ∨ mn = .rts ∨ mn = .rti) ∧
    ¬ (mn' = .jmp ∨ mn' = .jsr ∨ mn' = .rts ∨ mn' = .rti) := ⟨.rti, .lda, by decide, by decide⟩

theorem test_meets_StoreThenLoad : ∃ k k' : Key, k' ≠ k := ⟨.cpuRam16 0x3F00#16, .ppuMemory8 0x3F00#16, nofun⟩

theorem test_meets_BranchesOnZero : ∃ s : State, s.flag .z = false := ⟨State.reset, rfl⟩

theorem test_meets_UnimplementedMnemonics : ∃ (i : Instr) (mn : Mnemonic) (mode : Mode), i.mnemonic? = some mn ∧
    i.mode? = some mode ∧ modeHandled mode = true ∧ mn ∉ implementedMnemonics :=
  ⟨.rts, .rts, .implied, rfl, rfl, rfl, by decide⟩

/-- One witness for each of the eight modes. -/
theorem test_meets_UnhandledModes :
    Instr.aslAcc.mode? = some .accumulator ∧ (Instr.ldaZpX 0x10#8).mode? = some .zeroPageX ∧
    (Instr.ldxZpY 0x10#8).mode? = some .zeroPageY ∧ (Instr.adcAbsX 0x1234#16).mode? = some .absoluteX ∧
    (Instr.adcAbsY 0x1234#16).mode? = some .absoluteY ∧ (Instr.jmpInd 0x0200#16).mode? = some .indirect ∧
    (Instr.ldaIzX 0x10#8).mode? = some .indexedIndirect ∧ (Instr.ldaIzY 0x10#8).mode? = some .indirectIndexed := by
  decide

theorem test_meets_UndefinedOpcodes : 0xFF#8 ∈ undefinedOpcodes ∧ 0xFE#8 ∉ undefinedOpcodes := by decide

/-- One instruction for each register, flag and byte that the clauses let change. -/
theorem test_meets_WhoWrites :
    (nextHas (exec (.ldaImm 0x80#8) State.reset) (fun t => t.a ≠ 0x00#8 ∧ t.flag .n ≠ false) &&
      nextHas (exec (.ldxImm 0x03#8) State.reset) (fun t => t.x ≠ 0x00#8) &&
      nextHas (exec (.jsr 0xC010#16) State.reset) (fun t => t.sp ≠ 0x00#8 ∧ t.readCpu 0x0100#16 ≠ 0x00#8) &&
      nextHas (exec .sec State.reset) (fun t => t.flag .c ≠ false)) = true := by decide

/-- The corners of the counters' ranges. -/
theorem test_meets_PpuCounters :
    (∃ s : State, s.ppuCycles = 0 ∧ s.scanline = 0 ∧ s.scrollY = 0x00#8) ∧
    (∃ s t : State, s.ppuCycles = 340 ∧ s.scanline = 261 ∧ s.scrollY = 0x00#8 ∧ ppuStep s = .next t) :=
  ⟨⟨dotAt 0 0, rfl, rfl, rfl⟩, dotAt 261 340, _, rfl, rfl, rfl, rfl⟩

/-- Each row of the phase tables at the ends of its range (the tables of R274 to R276). -/
theorem test_meets_PhaseTable :
    (classify 0 0 = .render .idle ∧ classify 239 1 = .render .visible ∧ classify 239 256 = .render .visible ∧
      classify 0 257 = .render .idle ∧ classify 0 320 = .render .idle ∧ classify 0 321 = .render .preFetch ∧
      classify 239 336 = .render .preFetch ∧ classify 0 337 = .render .idle ∧ classify 239 340 = .render .idle) ∧
    (classify 240 0 = .postRender ∧ classify 241 0 = .vBlank ∧ classify 260 340 = .vBlank) ∧
    (classify 261 0 = .preRender .idle ∧ classify 261 1 = .preRender .clearVBlank ∧
      classify 261 2 = .preRender .idle ∧ classify 261 279 = .preRender .idle ∧
      classify 261 280 = .preRender .reloadY ∧ classify 261 304 = .preRender .reloadY ∧
      classify 261 305 = .preRender .idle ∧ classify 262 0 = .invalid) := by decide

theorem test_meets_VBlankEntry : ∃ s : State, s.ppuCycles = 340 ∧ s.scanline = 240 := ⟨State.reset, rfl, rfl⟩

/-- Both clauses: a phase of the list, and a VBlank position other than the entry. -/
theorem test_meets_QuietPhases :
    classify (tick (dotAt 261 0)).scanline (tick (dotAt 261 0)).ppuCycles.val = .preRender .clearVBlank ∧
    (classify (tick (dotAt 241 0)).scanline (tick (dotAt 241 0)).ppuCycles.val = .vBlank ∧
      ¬ ((tick (dotAt 241 0)).scanline = 241 ∧ (tick (dotAt 241 0)).ppuCycles = 0)) := by decide

theorem test_meets_VisibleDot : ∃ (s : State) (x y : Nat), s.ppuCycles.val = x ∧ s.scanline = y ∧ x ≤ 255 ∧ y ≤ 239 ∧
    y + s.scrollY.toNat ≤ 239 ∧ x = 255 ∧ y = 239 ∧ ∃ x' y'', x' < 256 ∧ ¬ (x' = x ∧ y'' = y + s.scrollY.toNat) :=
  ⟨dotAt 239 255, 255, 239, rfl, rfl, by decide, by decide, by decide, rfl, rfl, 0, 0, by decide, by decide⟩

theorem test_meets_RowOutside : ∃ (s : State) (x y : Nat), s.ppuCycles.val = x ∧ s.scanline = y ∧ x ≤ 255 ∧ y ≤ 239 ∧
    239 < y + s.scrollY.toNat :=
  ⟨(dotAt 235 0).setScrollY 5#8, 0, 235, rfl, rfl, by decide, by decide, by decide⟩

theorem test_meets_ScrollX : (∃ s t : State, ppuStep s = .next t) ∧ (∃ (s : State) (f : Fault), ppuStep s = .fault f) :=
  ⟨⟨State.reset, _, rfl⟩, (dotAt 235 0).setScrollY 5#8, _, rfl⟩

theorem test_meets_InvariantViolation :
    (∃ s : State, s.scanline ≤ 261 ∧ s.ppuCycles = 340) ∧ (∃ s : State, s.ppuCycles.val < 340 ∧ 261 < s.scanline) :=
  ⟨⟨dotAt 261 340, by decide, rfl⟩, dotAt 262 339, by decide, by decide⟩

theorem test_meets_PpuFramePeriod : ∃ s : State, s.scanline ≤ 261 ∧ s.scrollY = 0x00#8 ∧ s.ppuCycles = 340 :=
  ⟨dotAt 261 340, by decide, rfl, rfl⟩

theorem test_meets_FirstFrame : ∃ s : State, s.scrollY.toNat ≤ 239 ∧ (1 ≤ 7162 ∧ 7162 ≤ 7162) :=
  ⟨State.reset.setScrollY 239#8, by decide, by decide⟩

theorem test_meets_PpuStepReads :
    (∃ s t : State, ppuStep s = .next t) ∧
    (∃ (s : State) (m : Memory), (∀ addr, .ppuRead addr ∈ ppuAccesses s → m.read addr = s.readPpu addr) ∧
      m ≠ s.ppuMem) :=
  ⟨⟨rendererVector, _, rfl⟩, State.reset, Memory.write [] 0x1234#16 0x01#8, by
    have h : ppuAccesses State.reset = [] := by decide
    simp [h], by decide⟩

theorem test_meets_OnlyVBlankEntry :
    ∃ s t : State, s.scanline ≤ 261 ∧ ppuStep s = .next t ∧ t.latch ≠ s.latch ∧
      t.verticalBlank ≠ s.verticalBlank :=
  ⟨State.reset.setGenerateNmi true, _, by decide, rfl, nofun, nofun⟩

theorem test_meets_OnlyVBlankEntry_cpu :
    ∃ s t : State, s.scanline ≤ 261 ∧ cpuStep s = .next t ∧ s.latch = .nmi :=
  ⟨(at' 0xC000#16 [0xEA#8]).setLatch .nmi, _, by decide, rfl, rfl⟩

theorem test_meets_Commute :
    (∃ s t u : State, cpuStep s = .next t ∧ ppuStep t = .next u) ∧
    (∃ s t u : State, ppuStep s = .next t ∧ cpuStep t = .next u) :=
  ⟨⟨at' 0xC000#16 [0xEA#8], _, _, rfl, rfl⟩, at' 0xC000#16 [0xEA#8], _, _, rfl, rfl⟩

theorem test_meets_Schedule : ∃ (s t : State) (us vs : List Turn), (∀ u ∈ us, u = .cpu ∨ u = .ppu) ∧ us.Perm vs ∧
    us ≠ vs ∧ runEngine step us.length (s.setTurns us) = .next t :=
  ⟨at' 0xC000#16 [0xEA#8], _, [.cpu, .ppu], [.ppu, .cpu], by decide, List.Perm.swap _ _ _, by decide, rfl⟩

theorem test_meets_FaultIsTerminal :
    (∃ (s : State) (f : Fault), step s = .fault f ∧ s.faultRecord = none) ∧
    (∃ (s : State) (f : Fault), s.faultRecord = some f) :=
  ⟨⟨State.reset, .unimplementedFeature .unimplementedMnemonic 0x0000#16 0x00#8, rfl, rfl⟩,
    State.reset.recordFault (.framebufferRow 0 240), _, rfl⟩

theorem test_meets_PpuReset : ∃ (s : State) (us : List Turn), s.faultRecord = none ∧ s.turns = .host .resetPpu :: us :=
  ⟨(dotAt 100 13).setTurns [.host .resetPpu, .ppu], [.ppu], rfl, rfl⟩

theorem test_meets_HostCounters : (340 < 341 ∧ 340 < 341) ∧ (261 ≤ 261 ∧ 261 < 262) := by decide

theorem test_meets_HostTurn :
    (∃ (action : HostAction) (s t : State), action ≠ .resetPpu ∧ hostAct action s = .next t ∧
      (∃ k, action.target ≠ some k) ∧ t.ppuCycles = 340 ∧ s.ppuCycles ≠ 340) ∧
    (∃ action : HostAction, (∀ n, action = .storePpuCycles n → n ≤ 340) ∧
      (∀ n, action = .storeScanline n → n ≤ 261) ∧ action = .storeScanline 261) :=
  ⟨⟨.storePpuCycles 340, dotAt 100 13, _, nofun, rfl, ⟨.cpuInterruptLatch, nofun⟩, rfl, by decide⟩,
    .storeScanline 261, nofun, fun n h => by cases h; exact Nat.le_refl _, rfl⟩

/-- An endless schedule of one CPU step and three PPU steps, repeated from the state's own list. -/
theorem test_meets_ScheduleIsAParameter : ∃ (schedule : Nat → Turn) (s : State) (j : Nat), s.turns = [] ∧
    s.cycle = (List.range (j + 1)).map schedule ∧ (∀ n, schedule (n + (j + 1)) = schedule n) ∧
    s.cycle = [.cpu, .ppu, .ppu, .ppu] :=
  ⟨fun n => if n % 4 = 0 then .cpu else .ppu, State.reset.setCycle [.cpu, .ppu, .ppu, .ppu], 3, rfl, by decide,
    fun n => by simp only [Nat.add_mod_right], rfl⟩

/-- That schedule goes on past its list: the fifth turn is the CPU's again. -/
theorem test_cycle_repeats :
    nextHas (runEngine step 5 ((at' 0xC000#16 [0xEA#8, 0xEA#8]).setCycle [.cpu, .ppu, .ppu, .ppu]))
      (fun t => t.pc = 0xC002#16 ∧ t.scanline = 241 ∧ t.ppuCycles = 2 ∧ t.turns = [.ppu, .ppu, .ppu]) = true := by
  decide

/-- A framebuffer cell nothing has written holds its launch value (R46), and a written one the value written. -/
theorem test_pixel_reads (c : Rgb) :
    State.reset.load (.screenPixel 3 7) = Config.launchPixel (256 * 7 + 3) ∧
    (State.reset.store (.screenPixel 3 7) c).load (.screenPixel 3 7) = c := ⟨rfl, rfl⟩

theorem test_meets_StepKeepsTheInvariant : ∃ s t : State, s.Inv ∧ step s = .next t ∧ t.pc = 0xC003#16 :=
  ⟨(at' 0xC000#16 [0x8D#8, 0x00#8, 0x02#8]).setA 0x55#8, _, by decide, rfl, rfl⟩

end Sys2Proof.Tests.Slice0
end

section
/-! The schedule is a parameter of a turn (R7, R47): putting another schedule beside the machine's state and taking a
turn commute, whatever the turn answers. One rule for each store that a turn makes, then one for each agent's turn,
and from them the obligation. -/

namespace Sys2Proof.Machine

/-! ## Outcomes with their next state changed -/

section
variable {σ τ υ : Type}

@[simp] theorem mapNext_next (f : σ → τ) (s : σ) : mapNext f (.next s) = .next (f s) := rfl
@[simp] theorem mapNext_fault (f : σ → τ) (e : Fault) : mapNext f (.fault e) = .fault e := rfl
@[simp] theorem mapNext_refused (f : σ → τ) (r : Refusal) : mapNext f (.refused r) = .refused r := rfl

theorem mapNext_mapNext (g : τ → υ) (f : σ → τ) (o : Host.Outcome σ Fault Refusal) :
    mapNext g (mapNext f o) = mapNext (g ∘ f) o := by
  cases o <;> rfl

end

/-! ## Another schedule beside the same machine -/

/-- The same machine's state with another schedule beside it. -/
def State.reschedule (s : State) (us cs : List Turn) : State := s.toCoreState.withSchedule us cs

variable (s : State) (us cs : List Turn)

@[simp] theorem reschedule_toCoreState : (s.reschedule us cs).toCoreState = s.toCoreState := rfl

@[simp] theorem readCpu_reschedule (addr : Word) : (s.reschedule us cs).readCpu addr = s.readCpu addr := rfl

/-! ## A store beside another schedule -/

@[simp] theorem setA_reschedule (v : Byte) :
    (s.reschedule us cs).setA v = (s.setA v).reschedule us cs := rfl
@[simp] theorem setX_reschedule (v : Byte) :
    (s.reschedule us cs).setX v = (s.setX v).reschedule us cs := rfl
@[simp] theorem setSp_reschedule (v : Byte) :
    (s.reschedule us cs).setSp v = (s.setSp v).reschedule us cs := rfl
@[simp] theorem setPc_reschedule (v : Word) :
    (s.reschedule us cs).setPc v = (s.setPc v).reschedule us cs := rfl
@[simp] theorem setLatch_reschedule (v : Latch) :
    (s.reschedule us cs).setLatch v = (s.setLatch v).reschedule us cs := rfl
@[simp] theorem setVerticalBlank_reschedule (v : Bool) :
    (s.reschedule us cs).setVerticalBlank v = (s.setVerticalBlank v).reschedule us cs := rfl
@[simp] theorem setPpuCycles_reschedule (v : Fin 341) :
    (s.reschedule us cs).setPpuCycles v = (s.setPpuCycles v).reschedule us cs := rfl
@[simp] theorem setScanline_reschedule (v : Nat) :
    (s.reschedule us cs).setScanline v = (s.setScanline v).reschedule us cs := rfl
@[simp] theorem setFrameCount_reschedule (v : Nat) :
    (s.reschedule us cs).setFrameCount v = (s.setFrameCount v).reschedule us cs := rfl
@[simp] theorem setScreen_reschedule (v : Framebuffer) :
    (s.reschedule us cs).setScreen v = (s.setScreen v).reschedule us cs := rfl

@[simp] theorem writeCpu_reschedule (addr : Word) (v : Byte) :
    (s.reschedule us cs).writeCpu addr v = (s.writeCpu addr v).reschedule us cs := rfl
@[simp] theorem advance_reschedule (mode : Mode) (mn : Mnemonic) :
    (s.reschedule us cs).advance mode mn = (s.advance mode mn).reschedule us cs := rfl
@[simp] theorem setFlag_reschedule (f : Flag) (b : Bool) :
    (s.reschedule us cs).setFlag f b = (s.setFlag f b).reschedule us cs := rfl

theorem store_reschedule (k : Key) (v : k.Val) :
    (s.reschedule us cs).store k v = (s.store k v).reschedule us cs := by
  cases k with
  | cpuRegister r | ppuRegister r => cases r <;> rfl
  | cpuRam16 | cpuInterruptLatch | ppuMemory8 | screenPixel => rfl

/-! ## The CPU's turn -/

@[simp] theorem branchIf_reschedule (f : Flag) (want : Bool) (ea : Word) :
    branchIf f want ea (s.reschedule us cs) = (branchIf f want ea s).reschedule us cs :=
  (apply_ite (State.reschedule · us cs) (s.flag f = want) (s.setPc ea) s).symm

@[simp] theorem callTo_reschedule (ea : Word) :
    callTo ea (s.reschedule us cs) = (callTo ea s).reschedule us cs := by
  simp [callTo, push16, push]

@[simp] theorem loadA_reschedule (v : Byte) : loadA v (s.reschedule us cs) = (loadA v s).reschedule us cs := by
  simp [loadA, State.setZN, State.setZ, State.setN]

@[simp] theorem loadX_reschedule (v : Byte) : loadX v (s.reschedule us cs) = (loadX v s).reschedule us cs := by
  simp [loadX, State.setZN, State.setZ, State.setN]

/-- The instructions that complete store by the rules above; every other one ends in a fault, which carries nothing of
the schedule. -/
theorem exec_reschedule (i : Instr) : exec i (s.reschedule us cs) = mapNext (·.reschedule us cs) (exec i s) := by
  cases i
  case bcc rel | bcs rel | beq rel | bne rel =>
    simp [exec, execBcc, execBcs, execBeq, execBne, branch]
  case clc | sec | jmpAbs addr | jsr addr | nop =>
    simp [exec, execClc, execSec, execJmpAbs, execJsr, execNop]
  case ldaImm imm | ldaZp zp | ldaAbs addr =>
    simp [exec, execLdaImm, execLdaZp, execLdaAbs, loadAFrom]
  case ldxImm imm | ldxZp zp | ldxAbs addr =>
    simp [exec, execLdxImm, execLdxZp, execLdxAbs, loadXFrom]
  case staZp zp | staAbs addr => simp [exec, execStaZp, execStaAbs, storeA]
  case stxZp zp | stxAbs addr => simp [exec, execStxZp, execStxAbs, storeX]
  case styZp zp | styAbs addr => simp [exec, execStyZp, execStyAbs, storeY]
  all_goals rfl

theorem cpuStep_reschedule : cpuStep (s.reschedule us cs) = mapNext (·.reschedule us cs) (cpuStep s) :=
  exec_reschedule s us cs (fetchInstr s)

/-! ## The PPU's turn -/

theorem tick_reschedule : tick (s.reschedule us cs) = (tick s).reschedule us cs := by
  unfold tick
  by_cases hdot : s.ppuCycles.val + 1 > 340
  · by_cases hline : s.scanline + 1 > 261
    · simp [hdot, hline]
    · simp [hdot, hline]
  · simp [hdot]

theorem enterVBlank_reschedule : enterVBlank (s.reschedule us cs) = (enterVBlank s).reschedule us cs := by
  by_cases hnmi : s.generateNmi
  · simp [enterVBlank, hnmi]
  · simp [enterVBlank, hnmi]

theorem renderPixel_reschedule (x y : Nat) :
    renderPixel x y (s.reschedule us cs) = mapNext (·.reschedule us cs) (renderPixel x y s) := by
  have hrow : scrolledRow y (s.reschedule us cs) = scrolledRow y s := rfl
  have hcolour : ∀ y', pixelColour x y' (s.reschedule us cs) = pixelColour x y' s := fun _ => rfl
  by_cases hy : scrolledRow y s > 239
  · simp [renderPixel, hrow, hy]
  · simp [renderPixel, hrow, hcolour, hy]

theorem ppuStep_reschedule : ppuStep (s.reschedule us cs) = mapNext (·.reschedule us cs) (ppuStep s) := by
  simp only [ppuStep, tick_reschedule, reschedule_toCoreState]
  cases classify (tick s).scanline (tick s).ppuCycles.val with
  | render sub =>
    cases sub with
    | visible => exact renderPixel_reschedule (tick s) us cs _ _
    | idle | preFetch => rfl
  | vBlank =>
    simp only [enterVBlank_reschedule, mapNext_next]
    exact congrArg _ (apply_ite (State.reschedule · us cs) _ _ _).symm
  | preRender sub => cases sub <;> rfl
  | postRender | invalid => rfl

/-! ## The host's turn -/

theorem hostAct_reschedule (action : HostAction) :
    hostAct action (s.reschedule us cs) = mapNext (·.reschedule us cs) (hostAct action s) := by
  cases action with
  | storePpuCycles v =>
    by_cases hv : v < 341
    · simpa [hostAct, hv] using store_reschedule s us cs (.ppuRegister .ppuCycles) ⟨v, hv⟩
    · simp [hostAct, hv]
  | storeScanline v =>
    by_cases hv : v ≤ 261
    · simpa [hostAct, hv] using store_reschedule s us cs (.ppuRegister .scanline) v
    · simp [hostAct, hv]
  | resetPpu => rfl
  | _ => exact congrArg Host.Outcome.next (store_reschedule s us cs _ _)

/-! ## Any agent's turn, and a step -/

theorem act_reschedule (turn : Turn) :
    act turn (s.reschedule us cs) = mapNext (·.reschedule us cs) (act turn s) := by
  simp only [act, reschedule_toCoreState]
  cases s.faultRecord with
  | some f => rfl
  | none =>
    cases turn with
    | cpu => exact cpuStep_reschedule s us cs
    | ppu => exact ppuStep_reschedule s us cs
    | host action => exact hostAct_reschedule s us cs action

/-- A turn of a state is the turn of its machine, with the schedule put back beside the next state. -/
theorem act_eq_takeTurn (turn : Turn) :
    act turn s = mapNext (fun c => c.withSchedule s.turns s.cycle) (takeTurn turn s.toCoreState) := by
  rw [takeTurn, mapNext_mapNext]
  exact act_reschedule (s.reschedule [] []) s.turns s.cycle turn

/-- Settles O59: `step` is `act` of the next turn on the state that holds the turns left. -/
theorem stepIsATurnOfTheMachine : Obligations.StepIsATurnOfTheMachine :=
  fun s => act_eq_takeTurn (s.setTurns s.nextTurn.2) s.nextTurn.1

end Sys2Proof.Machine
end

section
/-! The flags of P as R27 gives them: what reading a flag returns after a write to the same and to another flag, and
after each operation of the CPU. -/

namespace Sys2Proof.Machine

variable (s : State)

theorem flagBit_lt (f : Flag) : flagBit f < 8 := by
  cases f <;> decide

theorem flagBit_inj {f g : Flag} : flagBit f = flagBit g ↔ f = g := by
  cases f <;> cases g <;> decide

theorem getFlag_putFlag (p : Byte) (f g : Flag) (b : Bool) :
    getFlag (putFlag p f b) g = if g = f then b else getFlag p g := by
  have hf := flagBit_lt f
  have hg := flagBit_lt g
  by_cases h : g = f
  · subst h
    cases b <;> simp [getFlag, putFlag, hg]
  · have hne : flagBit g ≠ flagBit f := fun e => h (flagBit_inj.mp e)
    rcases Nat.lt_or_gt_of_ne hne with hlt | hgt
    · cases b <;> simp [getFlag, putFlag, hg, h, hlt]
    · have hsub : flagBit g - flagBit f ≠ 0 := by omega
      cases b <;> simp [getFlag, putFlag, hg, h, hsub]

/-- Writing a flag replaces that flag and no other (R27). -/
theorem flag_setFlag (f g : Flag) (b : Bool) : (s.setFlag f b).flag g = if g = f then b else s.flag g :=
  getFlag_putFlag s.p f g b

@[simp] theorem flag_setFlag_same (f : Flag) (b : Bool) : (s.setFlag f b).flag f = b := by
  simp [flag_setFlag]

theorem flag_setFlag_other {f g : Flag} (h : g ≠ f) (b : Bool) : (s.setFlag f b).flag g = s.flag g := by
  simp [flag_setFlag, h]

theorem flag_setZN (v : Byte) (g : Flag) :
    (s.setZN v).flag g = if g = .n then v.getLsbD 7 else if g = .z then decide (v = 0x00#8) else s.flag g := by
  simp only [State.setZN, State.setZ, State.setN, flag_setFlag]

theorem flag_loadA (v : Byte) (g : Flag) : (loadA v s).flag g = (s.setZN v).flag g := rfl

theorem flag_loadX (v : Byte) (g : Flag) : (loadX v s).flag g = (s.setZN v).flag g := rfl

@[simp] theorem flag_setPc (v : Word) (g : Flag) : (s.setPc v).flag g = s.flag g := rfl
@[simp] theorem flag_advance (mode : Mode) (mn : Mnemonic) (g : Flag) : (s.advance mode mn).flag g = s.flag g := rfl
@[simp] theorem flag_writeCpu (addr : Word) (v : Byte) (g : Flag) : (s.writeCpu addr v).flag g = s.flag g := rfl
@[simp] theorem flag_callTo (ea : Word) (g : Flag) : (callTo ea s).flag g = s.flag g := rfl

/-- Settles O12: the bit of a flag and the formula of its writing are the definitions, and reading after writing is
`flag_setFlag`. -/
theorem flagAccess : Obligations.FlagAccess :=
  fun s f b => ⟨rfl, rfl, flag_setFlag_same s f b, fun _ hg => flag_setFlag_other s hg b⟩

end Sys2Proof.Machine
end

section
/-! What an instruction that answers a next state leaves alone: everything outside the CPU, and of the CPU's registers,
flags and memory all that its mnemonic does not write. -/

namespace Sys2Proof.Machine

variable {s t : State} {i : Instr}

/-- Taken or not, a branch's handler stores to Pc only. -/
theorem branchIf_eq_setPc (f : Flag) (want : Bool) (ea : Word) (s : State) :
    ∃ pc, branchIf f want ea s = s.setPc pc := by
  by_cases h : s.flag f = want
  · exact ⟨ea, if_pos h⟩
  · exact ⟨s.pc, if_neg h⟩

theorem exec_sameOutsideCpu (h : exec i s = .next t) : SameOutsideCpu s t := by
  rcases exec_next h with ⟨mn, f, want, rel, rfl, -⟩ | ⟨_, _, rfl, -⟩ | ⟨_, rfl, -⟩ | ⟨_, rfl, -⟩ |
    ⟨_, _, rfl, -⟩ | ⟨_, _, rfl, -⟩ | ⟨_, _, _, _, rfl, -⟩ | ⟨rfl, -⟩
  · obtain ⟨pc, hpc⟩ := branchIf_eq_setPc f want (relativeTarget s.pc rel) (s.advance .relative mn)
    rw [hpc]
    exact ⟨by constructor <;> simp, by simp, by constructor <;> simp⟩
  all_goals exact ⟨by constructor <;> simp, by simp, by constructor <;> simp⟩

/-- Settles O36: the cases are what the completing instructions do to the state; each names the one mnemonic that
accounts for what it stores. -/
theorem whoWritesTheCpuRegisters : Obligations.WhoWritesTheCpuRegisters := by
  intro i s t h
  rcases exec_next h with ⟨mn, f, want, rel, rfl, -⟩ | ⟨mn, b, rfl, hi⟩ | ⟨addr, rfl, -⟩ | ⟨addr, rfl, rfl⟩ |
    ⟨mode, v, rfl, hi⟩ | ⟨mode, v, rfl, hi⟩ | ⟨mode, mn, ea, v, rfl, hi⟩ | ⟨rfl, -⟩
  · obtain ⟨pc, hpc⟩ := branchIf_eq_setPc f want (relativeTarget s.pc rel) (s.advance .relative mn)
    simp [hpc, State.readCpu]
  · have hm : i.mnemonic? = some .clc ∨ i.mnemonic? = some .sec := hi.imp (congrArg _) (congrArg _)
    simp [flag_setFlag, State.readCpu, hm]
  · simp [State.readCpu]
  · simp [Instr.mnemonic?]
  · have hm : i.mnemonic? = some .lda := by rcases hi with ⟨_, rfl⟩ | ⟨_, rfl⟩ | ⟨_, rfl⟩ <;> rfl
    simp [flag_loadA, flag_setZN, State.readCpu, hm]
  · have hm : i.mnemonic? = some .ldx := by rcases hi with ⟨_, rfl⟩ | ⟨_, rfl⟩ | ⟨_, rfl⟩ <;> rfl
    simp [flag_loadX, flag_setZN, State.readCpu, hm]
  · have hm : i.mnemonic? = some .sta ∨ i.mnemonic? = some .stx ∨ i.mnemonic? = some .sty ∨
        i.mnemonic? = some .jsr := by
      rcases hi with ⟨_, rfl | rfl | rfl⟩ | ⟨_, rfl | rfl | rfl⟩ <;> simp [Instr.mnemonic?]
    simp [hm]
  · simp [State.readCpu]

end Sys2Proof.Machine
end

section
/-! What a PPU step does to the state outside its counters: VBlank entry is the one step that touches VerticalBlank or
the latch. -/

namespace Sys2Proof.Machine

variable {s t : State}

/-- The counters are all that a tick stores. -/
theorem tick_eq_setCounters (s : State) :
    ∃ dot line frame, tick s = ((s.setPpuCycles dot).setScanline line).setFrameCount frame := by
  refine ⟨(tick s).ppuCycles, (tick s).scanline, (tick s).frameCount, ?_⟩
  rcases tick_cases s with ⟨_, h⟩ | ⟨_, _, h⟩ | ⟨_, _, h⟩ <;> rw [h] <;> rfl

@[simp] theorem tick_cpuMem (s : State) : (tick s).cpuMem = s.cpuMem := by
  obtain ⟨_, _, _, h⟩ := tick_eq_setCounters s
  simp [h]

@[simp] theorem tick_ppuMem (s : State) : (tick s).ppuMem = s.ppuMem := by
  obtain ⟨_, _, _, h⟩ := tick_eq_setCounters s
  simp [h]

@[simp] theorem tick_screen (s : State) : (tick s).screen = s.screen := by
  obtain ⟨_, _, _, h⟩ := tick_eq_setCounters s
  simp [h]

@[simp] theorem tick_latch (s : State) : (tick s).latch = s.latch := by
  obtain ⟨_, _, _, h⟩ := tick_eq_setCounters s
  simp [h]

@[simp] theorem tick_verticalBlank (s : State) : (tick s).verticalBlank = s.verticalBlank := by
  obtain ⟨_, _, _, h⟩ := tick_eq_setCounters s
  simp [h]

@[simp] theorem tick_generateNmi (s : State) : (tick s).generateNmi = s.generateNmi := by
  obtain ⟨_, _, _, h⟩ := tick_eq_setCounters s
  simp [h]

theorem frameCount_le_tick (s : State) : s.frameCount ≤ (tick s).frameCount := by
  rcases tick_cases s with ⟨_, h⟩ | ⟨_, _, h⟩ | ⟨_, _, h⟩ <;> simp [h]

/-- The counters stay in range (R271 to R273). -/
theorem tick_scanline_le (hs : s.scanline ≤ 261) : (tick s).scanline ≤ 261 := by
  rcases tick_cases s with ⟨_, h⟩ | ⟨_, hlt, h⟩ | ⟨_, _, h⟩
  · simpa [h] using hs
  · simpa [h] using hlt
  · simp [h]

/-- The step that arrives at VBlank entry comes from the last dot of scanline 240 (R279, D12). -/
theorem position_before_vBlankEntry (hline : (tick s).scanline = 241) (hdot : (tick s).ppuCycles = 0) :
    s.scanline = 240 ∧ s.ppuCycles = 340 := by
  rcases tick_cases s with ⟨_, h⟩ | ⟨hc, _, h⟩ | ⟨_, _, h⟩
  · have hwrap : s.ppuCycles.val + 1 = 0 := by simpa [h] using congrArg Fin.val hdot
    omega
  · exact ⟨by simpa [h] using hline, hc⟩
  · simp [h] at hline

/-- VBlank entry stores VerticalBlank, and the latch where GenerateNMI is true (R279). -/
theorem enterVBlank_eq (s : State) :
    enterVBlank s = (s.setVerticalBlank true).setLatch (if s.generateNmi then .nmi else s.latch) := by
  cases h : s.generateNmi <;> simp only [enterVBlank, setVerticalBlank_generateNmi, h] <;> rfl

/-- What a PPU step that completes does to the two signals: nothing, or VBlank entry from the one position (R279). -/
theorem ppuStep_signals (h : ppuStep s = .next t) :
    (t.latch = s.latch ∧ t.verticalBlank = s.verticalBlank) ∨
    (s.scanline = 240 ∧ s.ppuCycles = 340 ∧ t.verticalBlank = true ∧
      t.latch = if s.generateNmi then .nmi else s.latch) := by
  rcases ppuStep_next h with rfl | ⟨hline, hdot, rfl⟩ | ⟨_, _, _, hr⟩
  · exact .inl ⟨tick_latch s, tick_verticalBlank s⟩
  · obtain ⟨hs, hc⟩ := position_before_vBlankEntry hline hdot
    exact .inr ⟨hs, hc, by simp [enterVBlank_eq], by simp [enterVBlank_eq]⟩
  · obtain ⟨_, rfl⟩ := renderPixel_next hr
    exact .inl ⟨by simp, by simp⟩

theorem frameCount_le_ppuStep (h : ppuStep s = .next t) : s.frameCount ≤ t.frameCount := by
  rcases ppuStep_next h with rfl | ⟨_, _, rfl⟩ | ⟨_, _, _, hr⟩
  · exact frameCount_le_tick s
  · simpa [enterVBlank_eq] using frameCount_le_tick s
  · obtain ⟨_, rfl⟩ := renderPixel_next hr
    simpa using frameCount_le_tick s

/-- Settles O49: a CPU step leaves the signals alone, and a PPU step does too unless it enters VBlank. -/
theorem onlyVBlankEntryRaisesNmi : Obligations.OnlyVBlankEntryRaisesNmi := by
  intro s t _ h
  rcases h with h | h
  · obtain ⟨ppu, latch, -⟩ := exec_sameOutsideCpu h
    exact ⟨latch.trans, ppu.verticalBlank.trans, ppu.frameCount.ge, fun hne => absurd latch hne,
      fun hne => absurd ppu.verticalBlank hne⟩
  · have hframe := frameCount_le_ppuStep h
    rcases ppuStep_signals h with ⟨latch, vBlank⟩ | ⟨line, dot, vBlank, latch⟩
    · exact ⟨latch.trans, vBlank.trans, hframe, fun hne => absurd latch hne, fun hne => absurd vBlank hne⟩
    · refine ⟨fun hs => by simp [latch, hs], fun _ => vBlank, hframe, fun hne => ⟨h, line, dot, ?_⟩,
        fun _ => ⟨h, line, dot⟩⟩
      by_contra hnmi
      exact hne (latch.trans (if_neg hnmi))

end Sys2Proof.Machine
end

section
/-! The invariant of the machine (R37, R38, R42; logs 5, 6, 14): it holds after reset, and every agent's turn keeps it. -/

namespace Sys2Proof.Machine

variable {s t : State} {i : Instr}

/-- Settles O57: reset lists no cell. -/
theorem resetMeetsTheInvariant : Obligations.ResetMeetsTheInvariant :=
  ⟨nil_wf, nil_wf, ⟨List.Pairwise.nil, fun _ h => nomatch h⟩, (by decide : 240 ≤ 261)⟩

/-- Settles O58: `State.reset` is written with these values, and `resetPpu` stores three of them again. -/
theorem resetValuesTheSpecGives : Obligations.ResetValuesTheSpecGives := ⟨rfl, rfl, rfl, rfl, rfl⟩

/-- A CPU step writes memory by whole bytes, so it keeps the canonical form. -/
theorem exec_cpuMem_wf (h : exec i s = .next t) (hs : s.cpuMem.wf) : t.cpuMem.wf := by
  rcases exec_next h with ⟨mn, f, want, rel, rfl, -⟩ | ⟨_, _, rfl, -⟩ | ⟨_, rfl, -⟩ | ⟨_, rfl, -⟩ |
    ⟨_, _, rfl, -⟩ | ⟨_, _, rfl, -⟩ | ⟨_, _, _, _, rfl, -⟩ | ⟨rfl, -⟩
  · obtain ⟨pc, hpc⟩ := branchIf_eq_setPc f want (relativeTarget s.pc rel) (s.advance .relative mn)
    rw [hpc]
    exact hs
  · exact hs
  · exact hs
  · exact write_wf (write_wf hs _ _) _ _
  · rwa [loadA_cpuMem]
  · rwa [loadX_cpuMem]
  · exact write_wf hs _ _
  · exact hs

theorem exec_keeps_inv (h : exec i s = .next t) (hs : s.Inv) : t.Inv := by
  obtain ⟨hcpu, hppu, hscreen, hline⟩ := hs
  obtain ⟨ppu, -, -⟩ := exec_sameOutsideCpu h
  exact ⟨exec_cpuMem_wf h hcpu, ppu.ppuMem ▸ hppu, ppu.screen ▸ hscreen, ppu.scanline ▸ hline⟩

theorem tick_keeps_inv (hs : s.Inv) : (tick s).Inv := by
  obtain ⟨hcpu, hppu, hscreen, hline⟩ := hs
  exact ⟨by rwa [tick_cpuMem], by rwa [tick_ppuMem], by rwa [tick_screen], tick_scanline_le hline⟩

theorem enterVBlank_keeps_inv (hs : s.Inv) : (enterVBlank s).Inv := by
  rw [enterVBlank_eq]
  exact hs

/-- The renderer writes only cells of the framebuffer (R300, R301). -/
theorem renderPixel_keeps_inv {x y : Nat} (h : renderPixel x y s = .next t) (hx : x < 256) (hs : s.Inv) : t.Inv := by
  obtain ⟨hcpu, hppu, hscreen, hline⟩ := hs
  obtain ⟨hrow, rfl⟩ := renderPixel_next h
  exact ⟨hcpu, hppu, screen_write_wf hscreen hx (Nat.lt_succ_of_le hrow) _, hline⟩

theorem ppuStep_keeps_inv (h : ppuStep s = .next t) (hs : s.Inv) : t.Inv := by
  have htick := tick_keeps_inv hs
  rcases ppuStep_next h with rfl | ⟨_, _, rfl⟩ | ⟨_, _, hdot, hr⟩
  · exact htick
  · exact enterVBlank_keeps_inv htick
  · exact renderPixel_keeps_inv hr (by omega) htick

/-- A store of any key keeps the memories and the framebuffer canonical, which leaves Scanline's range. -/
theorem store_keeps_inv {k : Key} {v : k.Val} (hs : s.Inv) (hline : (s.store k v).scanline ≤ 261) :
    (s.store k v).Inv := by
  obtain ⟨hcpu, hppu, hscreen, -⟩ := hs
  cases k with
  | cpuRam16 addr => exact ⟨write_wf hcpu addr v, hppu, hscreen, hline⟩
  | ppuMemory8 addr => exact ⟨hcpu, write_wf hppu addr v, hscreen, hline⟩
  | screenPixel x y => exact ⟨hcpu, hppu, screen_write_wf hscreen x.isLt y.isLt v, hline⟩
  | cpuInterruptLatch => exact ⟨hcpu, hppu, hscreen, hline⟩
  | cpuRegister r | ppuRegister r => cases r <;> exact ⟨hcpu, hppu, hscreen, hline⟩

theorem resetPpu_keeps_inv (hs : s.Inv) : (resetPpu s).Inv := by
  obtain ⟨hcpu, hppu, hscreen, -⟩ := hs
  exact ⟨hcpu, hppu, hscreen, (by decide : 240 ≤ 261)⟩

/-- Settles O54: inside a counter's range the host's turn takes the storing branch, outside it the refusing one. -/
theorem hostCounterStoresKeepTheRange : Obligations.HostCounterStoresKeepTheRange :=
  fun _ _ => ⟨fun h => dif_pos h, fun h => dif_neg (by omega), fun h => if_pos h, fun h => if_neg (by omega)⟩

/-- Only the turn that stores Scanline could leave its range, and there it is refused (R38, D24). -/
theorem hostAct_keeps_inv {action : HostAction} (h : hostAct action s = .next t) (hs : s.Inv) : t.Inv := by
  have ⟨_, _, _, hline⟩ := hs
  cases action with
  | storeScanline v =>
    simp only [hostAct] at h
    split at h
    · next hv => exact Host.Outcome.next.inj h ▸ store_keeps_inv hs hv
    · exact nomatch h
  | storePpuCycles v =>
    simp only [hostAct] at h
    split at h
    · exact Host.Outcome.next.inj h ▸ store_keeps_inv hs hline
    · exact nomatch h
  | resetPpu => exact Host.Outcome.next.inj h ▸ resetPpu_keeps_inv hs
  | _ => exact Host.Outcome.next.inj h ▸ store_keeps_inv hs hline

/-- Settles O56: a step is some agent's turn on the state with the turns left, and each agent's turn keeps the
invariant. -/
theorem stepKeepsTheInvariant : Obligations.StepKeepsTheInvariant := by
  intro s t hs h
  obtain ⟨-, _, rest, -, hturn⟩ := step_next h
  have hrest : (s.setTurns rest).Inv := hs
  rcases hturn with ⟨-, hcpu⟩ | ⟨-, hppu⟩ | ⟨_, -, hhost⟩
  · exact exec_keeps_inv hcpu hrest
  · exact ppuStep_keeps_inv hppu hrest
  · exact hostAct_keeps_inv hhost hrest

end Sys2Proof.Machine
end

section
/-! The keys of the AddressSpace (R20, R60 to R66): what a load returns after a store to the same key and to another
one, and the 16-bit load as a number. -/

namespace Sys2Proof.Machine

variable (s : State)

/-- Reading a key after a store to it gives the value stored (R61). -/
theorem load_store_same (k : Key) (v : k.Val) : (s.store k v).load k = v := by
  cases k with
  | cpuRam16 addr => exact readCpu_writeCpu_same s addr v
  | ppuMemory8 addr => exact read_write_same s.ppuMem addr v
  | screenPixel x y => exact (screen_read_write s.screen x.isLt x.isLt v).trans (if_pos ⟨rfl, rfl⟩)
  | cpuInterruptLatch => rfl
  | cpuRegister r | ppuRegister r => cases r <;> rfl

theorem load_store_cpuRam16 {addr : Word} (v : Byte) {k : Key} (h : k ≠ .cpuRam16 addr) :
    (s.store (.cpuRam16 addr) v).load k = s.load k := by
  cases k with
  | cpuRam16 addr' => exact readCpu_writeCpu_other s v fun e => h (e ▸ rfl)
  | cpuRegister r | ppuRegister r => cases r <;> rfl
  | cpuInterruptLatch | ppuMemory8 | screenPixel => rfl

theorem load_store_ppuMemory8 {addr : Word} (v : Byte) {k : Key} (h : k ≠ .ppuMemory8 addr) :
    (s.store (.ppuMemory8 addr) v).load k = s.load k := by
  cases k with
  | ppuMemory8 addr' => exact read_write_other s.ppuMem v fun e => h (e ▸ rfl)
  | cpuRegister r | ppuRegister r => cases r <;> rfl
  | cpuInterruptLatch | cpuRam16 | screenPixel => rfl

theorem load_store_screenPixel {x : Fin 256} {y : Fin 240} (v : Rgb) {k : Key} (h : k ≠ .screenPixel x y) :
    (s.store (.screenPixel x y) v).load k = s.load k := by
  cases k with
  | screenPixel x' y' =>
    refine (screen_read_write s.screen x.isLt x'.isLt v).trans (if_neg fun ⟨hx, hy⟩ => h ?_)
    rw [Fin.ext hx, Fin.ext hy]
  | cpuRegister r | ppuRegister r => cases r <;> rfl
  | cpuInterruptLatch | cpuRam16 | ppuMemory8 => rfl

theorem load_store_cpuRegister {r : CpuReg} (v : (Key.cpuRegister r).Val) {k : Key} (h : k ≠ .cpuRegister r) :
    (s.store (.cpuRegister r) v).load k = s.load k := by
  cases k with
  | cpuRegister r' =>
    have hr : r' ≠ r := fun e => h (e ▸ rfl)
    cases r <;> cases r' <;> simp at hr <;> rfl
  | ppuRegister r' => cases r <;> cases r' <;> rfl
  | cpuInterruptLatch | cpuRam16 | ppuMemory8 | screenPixel => cases r <;> rfl

theorem load_store_ppuRegister {r : PpuReg} (v : (Key.ppuRegister r).Val) {k : Key} (h : k ≠ .ppuRegister r) :
    (s.store (.ppuRegister r) v).load k = s.load k := by
  cases k with
  | ppuRegister r' =>
    have hr : r' ≠ r := fun e => h (e ▸ rfl)
    cases r <;> cases r' <;> simp at hr <;> rfl
  | cpuRegister r' => cases r <;> cases r' <;> rfl
  | cpuInterruptLatch | cpuRam16 | ppuMemory8 | screenPixel => cases r <;> rfl

theorem load_store_cpuInterruptLatch (v : Latch) {k : Key} (h : k ≠ .cpuInterruptLatch) :
    (s.store .cpuInterruptLatch v).load k = s.load k := by
  cases k with
  | cpuInterruptLatch => exact absurd rfl h
  | cpuRegister r | ppuRegister r => cases r <;> rfl
  | cpuRam16 | ppuMemory8 | screenPixel => rfl

/-- No two keys alias (R60, R66). -/
theorem load_store_other {k k' : Key} (v : k.Val) (h : k' ≠ k) : (s.store k v).load k' = s.load k' := by
  cases k with
  | cpuRam16 => exact load_store_cpuRam16 s v h
  | cpuRegister => exact load_store_cpuRegister s v h
  | cpuInterruptLatch => exact load_store_cpuInterruptLatch s v h
  | ppuRegister => exact load_store_ppuRegister s v h
  | ppuMemory8 => exact load_store_ppuMemory8 s v h
  | screenPixel => exact load_store_screenPixel s v h

/-- Settles O19: loading the key stored to, loading any other key, and both for a byte of CPU memory. -/
theorem storeThenLoad : Obligations.StoreThenLoad :=
  ⟨fun s k v => ⟨load_store_same s k v, fun _ h => load_store_other s v h⟩, readCpu_writeCpu⟩

theorem wordOfBytes_toNat (lo hi : Byte) : (wordOfBytes lo hi).toNat = lo.toNat + 256 * hi.toNat := by
  have hcat : (wordOfBytes lo hi).toNat = hi.toNat <<< 8 ||| lo.toNat := BitVec.toNat_append hi lo
  rw [hcat, ← Nat.shiftLeft_add_eq_or_of_lt lo.isLt, Nat.shiftLeft_eq]
  omega

/-- Settles O17: the two bytes as a number, the second at the next address modulo 65536. -/
theorem sixteenBitLoadIsLittleEndian : Obligations.SixteenBitLoadIsLittleEndian := by
  intro s a
  have hnext : a + 1 = BitVec.ofNat 16 ((a.toNat + 1) % 65536) := by bv_omega
  rw [← hnext]
  exact wordOfBytes_toNat (s.readCpu a) (s.readCpu (a + 1))

end Sys2Proof.Machine
end

section
/-! Stores to the instruction stream (R72): the next fetch reads its opcode byte from memory, so it decodes a byte
stored there by the step before. -/

namespace Sys2Proof.Machine

theorem fetchInstr_opcode (s : State) : (fetchInstr s).opcode = s.readCpu s.pc := opcode_decodeBytes _ _ _

theorem fetchInstr_opcode_writeCpu {s : State} {ea : Word} (v : Byte) (h : ea = s.pc) :
    (fetchInstr (s.writeCpu ea v)).opcode = v := by
  rw [fetchInstr_opcode, writeCpu_pc, ← h, readCpu_writeCpu_same]

/-- What a jump to a subroutine leaves in memory: the two bytes of `Pc - 1` in two cells of the stack (R181). -/
theorem readCpu_callTo (s : State) (ea addr : Word) :
    (callTo ea s).readCpu addr =
      if addr = stackAddr (s.sp - 1) then loByte (s.pc - 1)
      else if addr = stackAddr s.sp then hiByte (s.pc - 1) else s.readCpu addr := by
  simp only [State.readCpu, callTo_cpuMem, push16_cpuMem, read_write]

/-- The two cells that push16 writes are different, also where Sp wraps (R136). -/
theorem stackAddr_ne_pred (sp : Byte) : stackAddr sp ≠ stackAddr (sp - 1) := by
  rw [Ne, stackAddr_inj]
  bv_omega

/-- JSR leaves Pc for its handler to set, so the handler reads `pcv` (R130, R141). -/
theorem advance_jsr (s : State) (mode : Mode) : s.advance mode .jsr = s := by
  have hpc : s.pc + BitVec.ofNat 16 (delta mode .jsr) = s.pc := BitVec.add_zero _
  rw [State.advance, hpc]
  rfl

theorem exec_jsr (s : State) (addr : Word) : exec (.jsr addr) s = .next (callTo addr s) :=
  congrArg (fun t => Host.Outcome.next (callTo addr t)) (advance_jsr s .absolute)

/-- Settles O11: each store leaves the register's byte at the advanced Pc, and JSR leaves the bytes it pushed at the
cells it may jump to. -/
theorem storeIsSeenByTheNextFetch : Obligations.StoreIsSeenByTheNextFetch := by
  refine fun s addr zp => ⟨fun h => ⟨?_, ?_, ?_⟩, fun h => ⟨?_, ?_, ?_⟩, callTo addr s, exec_jsr s addr, ?_, ?_⟩
  · exact ⟨_, rfl, fetchInstr_opcode_writeCpu (s := s.advance .absolute .sta) s.a h⟩
  · exact ⟨_, rfl, fetchInstr_opcode_writeCpu (s := s.advance .absolute .stx) s.x h⟩
  · exact ⟨_, rfl, fetchInstr_opcode_writeCpu (s := s.advance .absolute .sty) s.y h⟩
  · exact ⟨_, rfl, fetchInstr_opcode_writeCpu (s := s.advance .zeroPage .sta) s.a h⟩
  · exact ⟨_, rfl, fetchInstr_opcode_writeCpu (s := s.advance .zeroPage .stx) s.x h⟩
  · exact ⟨_, rfl, fetchInstr_opcode_writeCpu (s := s.advance .zeroPage .sty) s.y h⟩
  · rintro rfl
    rw [fetchInstr_opcode, callTo_pc, readCpu_callTo, if_neg (stackAddr_ne_pred s.sp), if_pos rfl]
  · rintro rfl
    rw [fetchInstr_opcode, callTo_pc, readCpu_callTo, if_pos rfl]

end Sys2Proof.Machine
end

section
/-! The CPU step as the source's algorithm, and its access list (R78): one equation for each of the three ways a step
goes after the fetch, then the step from another CPU memory that holds the same bytes where the list reads. -/

namespace Sys2Proof.Machine

/-! ## The step is the algorithm of R121 -/

/-- `Resolve` (R123 to R128) from the two bytes after the opcode byte. -/
def resolveFrom (mode : Mode) (pcv : Word) (lo hi : Byte) : Option Word :=
  match mode with
  | .absolute => some (wordOfBytes lo hi)
  | .immediate => some (immediateAddr pcv)
  | .implied => some 0x0000#16
  | .relative => some (relativeTarget pcv lo)
  | .zeroPage => some (zeroPageAddr lo)
  | .accumulator | .zeroPageX | .zeroPageY | .absoluteX | .absoluteY | .indirect | .indexedIndirect
  | .indirectIndexed => none

theorem resolve_eq_resolveFrom (mode : Mode) (pcv : Word) (s : State) :
    resolve mode pcv s = resolveFrom mode pcv (s.readCpu (pcv + 1)) (s.readCpu (pcv + 2)) := by
  have hword : s.readCpuWord (pcv + 1) = wordOfBytes (s.readCpu (pcv + 1)) (s.readCpu (pcv + 2)) :=
    congrArg (fun addr => wordOfBytes (s.readCpu (pcv + 1)) (s.readCpu addr)) (BitVec.add_assoc pcv 1 1)
  cases mode with
  | absolute => exact congrArg some hword
  | relative => simp only [resolve, resolveFrom, hword, loByte_wordOfBytes]
  | _ => rfl

/-- For each value of the opcode byte, the constructor that it decodes to means what the handler of its mnemonic does
at the address of its mode (R94, R121). -/
theorem cpuStep_eq_cpuStepAlgorithm (s : State) : cpuStep s = cpuStepAlgorithm s := by
  simp only [cpuStep, fetchInstr, cpuStepAlgorithm, resolve_eq_resolveFrom]
  generalize s.readCpu s.pc = op
  have hop : op = BitVec.ofNat 8 op.toNat := by simp
  have hn : op.toNat < 256 := op.isLt
  generalize op.toNat = n at hop hn
  subst hop
  interval_cases n <;> rfl

section
variable {s : State} {op : Byte} {mn : Mnemonic} {mode : Mode} {ea : Word}

theorem cpuStep_of_undefined (hop : s.readCpu s.pc = op) (hmap : opcodeMap op = none) :
    cpuStep s = .fault (.unimplementedFeature .undefinedOpcode s.pc op) ∧ cpuAccesses s = [.cpuRead s.pc] := by
  simp only [cpuStep_eq_cpuStepAlgorithm, cpuStepAlgorithm, cpuAccesses, hop, hmap, and_self]

theorem cpuStep_of_unhandled (hop : s.readCpu s.pc = op) (hmap : opcodeMap op = some (mn, mode))
    (hres : resolve mode s.pc s = none) :
    cpuStep s = .fault (.unimplementedFeature .unhandledAddressingMode s.pc op) ∧
      cpuAccesses s = [.cpuRead s.pc] := by
  simp only [cpuStep_eq_cpuStepAlgorithm, cpuStepAlgorithm, cpuAccesses, hop, hmap, hres, and_self]

theorem cpuStep_of_handled (hop : s.readCpu s.pc = op) (hmap : opcodeMap op = some (mn, mode))
    (hres : resolve mode s.pc s = some ea) :
    cpuStep s = handler mn s.pc op ea (s.advance mode mn) ∧
      cpuAccesses s = .cpuRead s.pc :: (modeReads mode s.pc ++ handlerAccesses mn ea s) := by
  simp only [cpuStep_eq_cpuStepAlgorithm, cpuStepAlgorithm, cpuAccesses, hop, hmap, hres, State.advance, and_self]

end

/-! ## Another CPU memory under the same registers -/

variable {s : State} {m : Memory} {mode : Mode}

@[simp] theorem readCpu_setCpuMem (addr : Word) : (s.setCpuMem m).readCpu addr = m.read addr := rfl

/-- Whether a mode resolves does not depend on memory (R128). -/
theorem resolve_eq_none (pcv : Word) : resolve mode pcv s = none ↔ modeHandled mode = false := by
  cases mode <;> simp [resolve, modeHandled]

theorem resolve_setCpuMem {pcv : Word} (h : ∀ addr, .cpuRead addr ∈ modeReads mode pcv → m.read addr = s.readCpu addr) :
    resolve mode pcv (s.setCpuMem m) = resolve mode pcv s := by
  simp only [resolve_eq_resolveFrom, readCpu_setCpuMem]
  cases mode with
  | absolute | relative =>
    rw [h (pcv + 1) (by simp [modeReads]), h (pcv + 2) (by simp [modeReads])]
  | zeroPage => exact congrArg (some ∘ zeroPageAddr) (h (pcv + 1) (by simp [modeReads]))
  | _ => rfl

theorem replayCpuWrites_modeReads (pcv : Word) (as : List Access) :
    replayCpuWrites (modeReads mode pcv ++ as) m = replayCpuWrites as m := by
  cases mode <;> rfl

/-- The one handler that looks at Pc, that of JSR, is entered with Pc where it was (R130). -/
theorem handlerAccesses_advance (mn : Mnemonic) (ea : Word) :
    handlerAccesses mn ea (s.advance mode mn) = handlerAccesses mn ea s := by
  by_cases hjsr : mn = .jsr
  · rw [hjsr, advance_jsr]
  · simp only [handlerAccesses, advance_a, advance_x, advance_y, if_neg hjsr]

theorem branchIf_setCpuMem (f : Flag) (want : Bool) (ea : Word) :
    branchIf f want ea (s.setCpuMem m) = (branchIf f want ea s).setCpuMem m :=
  (apply_ite (State.setCpuMem · m) (s.flag f = want) (s.setPc ea) s).symm

/-- A handler reads memory where its accesses say, and its writes are those of its accesses (R78). -/
theorem handler_setCpuMem {mn : Mnemonic} {ea : Word} (pcv : Word) (op : Byte)
    (h : ∀ addr, .cpuRead addr ∈ handlerAccesses mn ea s → m.read addr = s.readCpu addr) :
    handler mn pcv op ea (s.setCpuMem m) =
      mapNext (·.setCpuMem (replayCpuWrites (handlerAccesses mn ea s) m)) (handler mn pcv op ea s) := by
  cases mn with
  | bcc | bcs | beq | bne => exact congrArg Host.Outcome.next (branchIf_setCpuMem _ _ ea)
  | lda => exact congrArg (fun v => Host.Outcome.next (loadA v (s.setCpuMem m))) (h ea List.mem_cons_self)
  | ldx => exact congrArg (fun v => Host.Outcome.next (loadX v (s.setCpuMem m))) (h ea List.mem_cons_self)
  | _ => rfl

/-- The step from another CPU memory with the same bytes where the list reads: the list is the same, and so is the
outcome, but for the writes being made in that memory. -/
theorem cpuStep_setCpuMem (h : ∀ addr, .cpuRead addr ∈ cpuAccesses s → m.read addr = s.readCpu addr) :
    cpuAccesses (s.setCpuMem m) = cpuAccesses s ∧
      cpuStep (s.setCpuMem m) = mapNext (·.setCpuMem (replayCpuWrites (cpuAccesses s) m)) (cpuStep s) := by
  have hop : (s.setCpuMem m).readCpu s.pc = s.readCpu s.pc := h s.pc List.mem_cons_self
  cases hmap : opcodeMap (s.readCpu s.pc) with
  | none =>
    obtain ⟨hstep, hacc⟩ := cpuStep_of_undefined rfl hmap
    obtain ⟨hstep', hacc'⟩ := cpuStep_of_undefined hop hmap
    exact ⟨hacc'.trans hacc.symm, by rw [hstep, hstep']; rfl⟩
  | some format =>
    obtain ⟨mn, mode⟩ := format
    cases hres : resolve mode s.pc s with
    | none =>
      have hres' : resolve mode s.pc (s.setCpuMem m) = none :=
        (resolve_eq_none s.pc).mpr ((resolve_eq_none s.pc).mp hres)
      obtain ⟨hstep, hacc⟩ := cpuStep_of_unhandled rfl hmap hres
      obtain ⟨hstep', hacc'⟩ := cpuStep_of_unhandled hop hmap hres'
      exact ⟨hacc'.trans hacc.symm, by rw [hstep, hstep']; rfl⟩
    | some ea =>
      obtain ⟨hstep, hacc⟩ := cpuStep_of_handled rfl hmap hres
      simp only [hacc, List.mem_cons, List.mem_append] at h
      have hres' : resolve mode s.pc (s.setCpuMem m) = some ea :=
        (resolve_setCpuMem fun addr ha => h addr (.inr (.inl ha))).trans hres
      obtain ⟨hstep', hacc'⟩ := cpuStep_of_handled hop hmap hres'
      have hwrites : replayCpuWrites (cpuAccesses s) m =
          replayCpuWrites (handlerAccesses mn ea (s.advance mode mn)) m := by
        rw [hacc, handlerAccesses_advance]
        exact replayCpuWrites_modeReads s.pc _
      refine ⟨hacc'.trans hacc.symm, ?_⟩
      rw [hstep, hstep', hwrites]
      refine handler_setCpuMem (s := s.advance mode mn) s.pc _ fun addr ha => ?_
      rw [handlerAccesses_advance] at ha
      exact h addr (.inr (.inr ha))

/-- Settles O9: the step from the state's own memory is the step from that memory with the writes made in it. -/
theorem cpuStepAccessesReplay : Obligations.CpuStepAccessesReplay := by
  intro s t h
  have hstep : cpuStep s = mapNext (·.setCpuMem (replayCpuWrites (cpuAccesses s) s.cpuMem)) (cpuStep s) :=
    (cpuStep_setCpuMem (m := s.cpuMem) fun _ _ => rfl).2
  rw [h] at hstep
  exact ⟨congrArg (·.cpuMem) (Host.Outcome.next.inj hstep), rfl⟩

/-- Settles O10: what `cpuStep_setCpuMem` says of the list, of a fault and of a next state. -/
theorem cpuStepReadsOnlyItsAccessList : Obligations.CpuStepReadsOnlyItsAccessList := by
  intro s m h
  obtain ⟨hacc, hstep⟩ := cpuStep_setCpuMem h
  exact ⟨hacc, fun f hf => by rw [hstep, hf]; rfl, fun t ht => by rw [hstep, ht]; rfl⟩

end Sys2Proof.Machine
end

section
/-! The two engines side by side (R60, R79): each step is the same whatever the other engine's part of the state holds,
and leaves that part alone, so that the steps commute. -/

namespace Sys2Proof.Machine

/-! ## The CPU of one state beside the rest of another -/

/-- The state with the CPU's registers and memory of `s` and everything else of `o`. -/
def State.beside (s o : State) : State :=
  { o with a := s.a, x := s.x, y := s.y, sp := s.sp, pc := s.pc, p := s.p, cpuMem := s.cpuMem }

variable {s t o : State}

theorem sameCpu_beside (s o : State) : SameCpu s (s.beside o) := ⟨rfl, rfl, rfl, rfl, rfl, rfl, rfl⟩

theorem beside_of_sameCpu (h : SameCpu s t) : s.beside t = t := by
  simp only [State.beside, ← h.a, ← h.x, ← h.y, ← h.sp, ← h.pc, ← h.p, ← h.cpuMem]

theorem beside_of_sameOutsideCpu (h : SameOutsideCpu s t) : t.beside s = t := by
  obtain ⟨ppu, latch, driver⟩ := h
  simp only [State.beside, ← ppu.scrollX, ← ppu.scrollY, ← ppu.nameTableAddr, ← ppu.backgroundTableAddr,
    ← ppu.generateNmi, ← ppu.verticalBlank, ← ppu.ppuCycles, ← ppu.scanline, ← ppu.frameCount, ← ppu.ppuMem,
    ← ppu.screen, ← latch, ← driver.faultRecord, ← driver.turns, ← driver.cycle]

/-! ## The CPU's step beside another PPU -/

theorem handler_beside (mn : Mnemonic) (pcv : Word) (op : Byte) (ea : Word) :
    handler mn pcv op ea (s.beside o) = mapNext (·.beside o) (handler mn pcv op ea s) := by
  have hbranch : ∀ f want, branchIf f want ea (s.beside o) = (branchIf f want ea s).beside o := fun f want =>
    (apply_ite (State.beside · o) (s.flag f = want) (s.setPc ea) s).symm
  cases mn with
  | bcc | bcs | beq | bne => exact congrArg Host.Outcome.next (hbranch _ _)
  | _ => rfl

/-- The CPU step looks at nothing outside the CPU (R60, R142). -/
theorem cpuStep_beside (s o : State) : cpuStep (s.beside o) = mapNext (·.beside o) (cpuStep s) := by
  have hop : (s.beside o).readCpu (s.beside o).pc = s.readCpu s.pc := rfl
  cases hmap : opcodeMap (s.readCpu s.pc) with
  | none =>
    rw [(cpuStep_of_undefined rfl hmap).1, (cpuStep_of_undefined hop hmap).1]
    rfl
  | some format =>
    obtain ⟨mn, mode⟩ := format
    have hres : resolve mode (s.beside o).pc (s.beside o) = resolve mode s.pc s := by cases mode <;> rfl
    cases hea : resolve mode s.pc s with
    | none =>
      rw [(cpuStep_of_unhandled rfl hmap hea).1, (cpuStep_of_unhandled hop hmap (hres.trans hea)).1]
      rfl
    | some ea =>
      rw [(cpuStep_of_handled rfl hmap hea).1, (cpuStep_of_handled hop hmap (hres.trans hea)).1]
      exact handler_beside (s := s.advance mode mn) mn s.pc _ ea

/-- Settles O37: the frame is `exec_sameOutsideCpu`; and a state with the same CPU is that CPU beside another rest. -/
theorem cpuStepLeavesTheRestAlone : Obligations.CpuStepLeavesTheRestAlone := by
  refine ⟨fun s t h => exec_sameOutsideCpu h, fun s u hsu => ?_⟩
  have hstep : cpuStep u = mapNext (·.beside u) (cpuStep s) := by
    rw [← cpuStep_beside, beside_of_sameCpu hsu]
  exact ⟨fun f hf => by rw [hstep, hf]; rfl,
    fun t ht => ⟨t.beside u, by rw [hstep, ht]; rfl, sameCpu_beside t u⟩⟩

/-! ## What the PPU's step stores -/

/-- The three counters, the two signals and the framebuffer are all that a PPU step stores (R283, R303). -/
theorem ppuStep_eq_stores (h : ppuStep s = .next t) :
    ∃ dot line frame latch vBlank screen, t = (((((s.setPpuCycles dot).setScanline line).setFrameCount frame).setLatch
      latch).setVerticalBlank vBlank).setScreen screen := by
  obtain ⟨dot, line, frame, htick⟩ := tick_eq_setCounters s
  refine ⟨dot, line, frame, t.latch, t.verticalBlank, t.screen, ?_⟩
  rcases ppuStep_next h with rfl | ⟨_, _, rfl⟩ | ⟨_, _, _, hr⟩
  · rw [htick]
    rfl
  · rw [enterVBlank_eq, htick]
    rfl
  · obtain ⟨_, rfl⟩ := renderPixel_next hr
    rw [htick]
    rfl

theorem ppuStep_sameCpu (h : ppuStep s = .next t) : SameCpu s t := by
  obtain ⟨_, _, _, _, _, _, rfl⟩ := ppuStep_eq_stores h
  constructor <;> simp

theorem ppuStep_sameDriver (h : ppuStep s = .next t) : SameDriver s t := by
  obtain ⟨_, _, _, _, _, _, rfl⟩ := ppuStep_eq_stores h
  constructor <;> simp

theorem ppuStep_of_visible (hvis : classify (tick s).scanline (tick s).ppuCycles.val = .render .visible) :
    ppuStep s = renderPixel ((tick s).ppuCycles.val - 1) (tick s).scanline (tick s) := by
  simp only [ppuStep, hvis]

/-- A PPU step that completes makes the one pixel write of its access list, or none (R78, R300). -/
theorem ppuStep_screen (h : ppuStep s = .next t) :
    (∃ x y v, .screenWrite x y v ∈ ppuAccesses s ∧ t.screen = s.screen.write x y v) ∨
      ((∀ x y v, .screenWrite x y v ∉ ppuAccesses s) ∧ t.screen = s.screen) := by
  by_cases hvis : classify (tick s).scanline (tick s).ppuCycles.val = .render .visible
  · obtain ⟨hrow, rfl⟩ := renderPixel_next ((ppuStep_of_visible hvis).symm.trans h)
    refine .inl ⟨_, _, _, ?_, congrArg (Framebuffer.write · _ _ _) (tick_screen s)⟩
    simp [ppuAccesses, hvis, Nat.not_lt.mpr hrow]
  · refine .inr ⟨by simp [ppuAccesses, hvis], ?_⟩
    rcases ppuStep_next h with rfl | ⟨_, _, rfl⟩ | ⟨hline, hlo, hhi, _⟩
    · exact tick_screen s
    · simp [enterVBlank_eq]
    · exact absurd (classify_visible.mpr ⟨hline, hlo, hhi⟩) hvis

/-! ## The PPU's step under a change of what it does not use -/

/-- A change of the state that leaves the position alone and commutes with what the three parts of a PPU step do
commutes with the step. -/
theorem ppuStep_map {f : State → State} (htick : tick (f s) = f (tick s))
    (hline : (f (tick s)).scanline = (tick s).scanline) (hdot : (f (tick s)).ppuCycles = (tick s).ppuCycles)
    (hvBlank : enterVBlank (f (tick s)) = f (enterVBlank (tick s)))
    (hpixel : classify (tick s).scanline (tick s).ppuCycles.val = .render .visible →
      renderPixel ((tick s).ppuCycles.val - 1) (tick s).scanline (f (tick s)) =
        mapNext f (renderPixel ((tick s).ppuCycles.val - 1) (tick s).scanline (tick s))) :
    ppuStep (f s) = mapNext f (ppuStep s) := by
  simp only [ppuStep, htick, hline, hdot]
  cases hphase : classify (tick s).scanline (tick s).ppuCycles.val with
  | render sub =>
    cases sub with
    | visible => exact hpixel hphase
    | idle | preFetch => rfl
  | vBlank =>
    simp only [hvBlank, mapNext_next]
    exact congrArg _ (apply_ite f _ _ _).symm
  | preRender sub => cases sub <;> rfl
  | postRender | invalid => rfl

/-- The counters do not depend on the CPU. -/
theorem tick_beside (c s : State) : tick (c.beside s) = c.beside (tick s) := by
  have hdot : (c.beside s).ppuCycles = s.ppuCycles := rfl
  have hline : (c.beside s).scanline = s.scanline := rfl
  unfold tick
  simp only [hdot, hline]
  split_ifs <;> rfl

theorem renderPixel_beside (c s : State) (x y : Nat) :
    renderPixel x y (c.beside s) = mapNext (c.beside ·) (renderPixel x y s) := by
  have hrow : scrolledRow y (c.beside s) = scrolledRow y s := rfl
  have hcolour : ∀ y', pixelColour x y' (c.beside s) = pixelColour x y' s := fun _ => rfl
  by_cases hy : scrolledRow y s > 239
  · simp only [renderPixel, hrow, if_pos hy, mapNext_fault]
  · simp only [renderPixel, hrow, hcolour, if_neg hy]
    rfl

/-- The PPU step looks at nothing of the CPU (R60). -/
theorem ppuStep_beside (c s : State) : ppuStep (c.beside s) = mapNext (c.beside ·) (ppuStep s) := by
  refine ppuStep_map (tick_beside c s) rfl rfl ?_ fun _ => renderPixel_beside c (tick s) _ _
  rw [enterVBlank_eq, enterVBlank_eq]
  rfl

@[simp] theorem readPpu_setPpuMem (s : State) (m : Memory) (addr : Word) :
    (s.setPpuMem m).readPpu addr = m.read addr := rfl

/-- The counters do not depend on PPU memory. -/
theorem tick_setPpuMem (s : State) (m : Memory) : tick (s.setPpuMem m) = (tick s).setPpuMem m := by
  have hdot : (s.setPpuMem m).ppuCycles = s.ppuCycles := rfl
  have hline : (s.setPpuMem m).scanline = s.scanline := rfl
  unfold tick
  simp only [hdot, hline]
  split_ifs <;> rfl

/-- The colour of a pixel depends on the four bytes of PPU memory that the renderer reads (R294 to R298). -/
theorem pixelColour_setPpuMem {m : Memory} {x y' : Nat}
    (htile : m.read (nameTableCell x y' s) = s.readPpu (nameTableCell x y' s))
    (hlow : m.read (patternAddr x y' s) = s.readPpu (patternAddr x y' s))
    (hhigh : m.read (patternAddr x y' s + 8) = s.readPpu (patternAddr x y' s + 8))
    (hpal : m.read (paletteCell (patternPixel x y' s)) = s.readPpu (paletteCell (patternPixel x y' s))) :
    pixelColour x y' (s.setPpuMem m) = pixelColour x y' s := by
  have hcell : nameTableCell x y' (s.setPpuMem m) = nameTableCell x y' s := rfl
  have hpa : patternAddr x y' (s.setPpuMem m) = patternAddr x y' s := by
    simp only [patternAddr, readPpu_setPpuMem, hcell, htile, setPpuMem_backgroundTableAddr]
  have hpp : patternPixel x y' (s.setPpuMem m) = patternPixel x y' s := by
    simp only [patternPixel, readPpu_setPpuMem, hpa, hlow, hhigh]
  simp only [pixelColour, readPpu_setPpuMem, hpp, hpal]

theorem renderPixel_setPpuMem {m : Memory} {x y : Nat}
    (hcolour : pixelColour x (scrolledRow y s) (s.setPpuMem m) = pixelColour x (scrolledRow y s) s) :
    renderPixel x y (s.setPpuMem m) = mapNext (·.setPpuMem m) (renderPixel x y s) := by
  have hrow : scrolledRow y (s.setPpuMem m) = scrolledRow y s := rfl
  by_cases hy : scrolledRow y s > 239
  · simp only [renderPixel, hrow, if_pos hy, mapNext_fault]
  · simp only [renderPixel, hrow, hcolour, if_neg hy]
    rfl

/-- The PPU step from another PPU memory with the same bytes where the access list reads (R78). -/
theorem ppuStep_setPpuMem {m : Memory} (h : ∀ addr, .ppuRead addr ∈ ppuAccesses s → m.read addr = s.readPpu addr) :
    ppuStep (s.setPpuMem m) = mapNext (·.setPpuMem m) (ppuStep s) := by
  refine ppuStep_map (f := (·.setPpuMem m)) (tick_setPpuMem s m) rfl rfl ?_ fun hvis => renderPixel_setPpuMem ?_
  · rw [enterVBlank_eq, enterVBlank_eq]
    rfl
  · have hread : ∀ addr, .ppuRead addr ∈ ppuAccesses s → m.read addr = (tick s).readPpu addr := fun addr ha =>
      (h addr ha).trans (congrArg (Memory.read · addr) (tick_ppuMem s)).symm
    exact pixelColour_setPpuMem (hread _ (by simp [ppuAccesses, hvis])) (hread _ (by simp [ppuAccesses, hvis]))
      (hread _ (by simp [ppuAccesses, hvis])) (hread _ (by simp [ppuAccesses, hvis]))

/-- Settles O48: the frame is what the step stores, with the pixel of `ppuStep_screen`; the rest is
`ppuStep_setPpuMem`. -/
theorem ppuStepReadsOnlyItsAccessList : Obligations.PpuStepReadsOnlyItsAccessList := by
  refine ⟨fun s t h => ?_, fun s m h => ?_⟩
  · have hscreen := ppuStep_screen h
    have hcpu := ppuStep_sameCpu h
    have hdriver := ppuStep_sameDriver h
    obtain ⟨_, _, _, _, _, _, rfl⟩ := ppuStep_eq_stores h
    refine ⟨hcpu, hdriver, ?_, ?_, ?_, ?_, ?_, ?_, hscreen⟩ <;> simp
  · have hstep := ppuStep_setPpuMem h
    exact ⟨fun f hf => by rw [hstep, hf]; rfl, fun t ht => by rw [hstep, ht]; rfl⟩

/-! ## The two steps commute -/

section
variable {σ τ : Type} {f : σ → τ} {out : Host.Outcome σ Fault Refusal}

theorem mapNext_eq_next {u : τ} : mapNext f out = .next u ↔ ∃ t, out = .next t ∧ f t = u := by
  cases out <;> simp

theorem mapNext_eq_fault {e : Fault} : mapNext f out = .fault e ↔ out = .fault e := by
  cases out <;> simp

end

theorem cpuStep_after_ppuStep (h : ppuStep s = .next t) : cpuStep t = mapNext (·.beside t) (cpuStep s) := by
  rw [← cpuStep_beside, beside_of_sameCpu (ppuStep_sameCpu h)]

theorem ppuStep_after_cpuStep (h : cpuStep s = .next t) : ppuStep t = mapNext (t.beside ·) (ppuStep s) := by
  rw [← ppuStep_beside, beside_of_sameOutsideCpu (exec_sameOutsideCpu h)]

/-- Both orders end in the CPU of the one next state beside the rest of the other. -/
theorem cpuStep_ppuStep_comm {c p : State} (hc : cpuStep s = .next c) (hp : ppuStep s = .next p) :
    cpuStep p = .next (c.beside p) ∧ ppuStep c = .next (c.beside p) :=
  ⟨by rw [cpuStep_after_ppuStep hp, hc]; rfl, by rw [ppuStep_after_cpuStep hc, hp]; rfl⟩

/-- Settles O50: a step that completes only changes what its outcome is put beside. -/
theorem cpuAndPpuStepsCommute : Obligations.CpuAndPpuStepsCommute := by
  intro s t
  refine ⟨fun hc u hu => ?_, fun hp u hu => ?_, fun hp f => ?_, fun hc f => ?_⟩
  · rw [ppuStep_after_cpuStep hc, mapNext_eq_next] at hu
    obtain ⟨p, hp, rfl⟩ := hu
    exact ⟨p, hp, (cpuStep_ppuStep_comm hc hp).1⟩
  · rw [cpuStep_after_ppuStep hp, mapNext_eq_next] at hu
    obtain ⟨c, hc, rfl⟩ := hu
    exact ⟨c, hc, (cpuStep_ppuStep_comm hc hp).2⟩
  · rw [cpuStep_after_ppuStep hp, mapNext_eq_fault]
  · rw [ppuStep_after_cpuStep hc, mapNext_eq_fault]

end Sys2Proof.Machine
end

section
/-! Decode and encode (R90 to R97): an instruction of the map is what its own bytes decode to, and the bytes of what was
decoded are those it was decoded from. The outcome of a decoded instruction depends on its opcode byte alone, so the
classes of R96 are counted over the 256 opcode bytes. -/

namespace Sys2Proof.Machine

variable {i : Instr} {b0 b1 b2 : Byte}

/-- A statement about every byte, from its 256 values. -/
theorem byte_cases {motive : Byte → Prop} (ofNat : ∀ n < 256, motive (BitVec.ofNat 8 n)) (b : Byte) : motive b := by
  simpa using ofNat b.toNat b.isLt

/-! ## The decoder on the bytes of an instruction -/

theorem mode?_eq_none : i.mode? = none ↔ i = .undefined i.opcode := by
  cases i
  case undefined op => exact iff_of_true rfl rfl
  all_goals exact iff_of_false nofun nofun

/-- Exactly the 105 listed bytes decode to no Instruction (R97). -/
theorem decodeBytes_eq_undefined : decodeBytes b0 b1 b2 = .undefined b0 ↔ b0 ∈ undefinedOpcodes := by
  have hlisted : (decodeBytes b0 b1 b2).mode?.isNone = undefinedOpcodes.contains b0 := by
    induction b0 using byte_cases with
    | ofNat n hn => interval_cases n <;> rfl
  have hmode := mode?_eq_none (i := decodeBytes b0 b1 b2)
  rw [opcode_decodeBytes] at hmode
  rw [← hmode, ← Option.isNone_iff_eq_none, hlisted, List.contains_iff_mem]

/-- An opcode byte and the operand bytes of its format decode to the instruction they are the bytes of, whatever follows
them. A 16-bit operand is put together again from its two bytes; every other operand is its byte (R91, R94). -/
theorem decodeBytes_encode (h : i.wellFormed = true) (rest : List Byte) :
    decodeBytes i.opcode ((i.operandBytes ++ rest).getD 0 0#8) ((i.operandBytes ++ rest).getD 1 0#8) = i := by
  cases i <;>
    simp only [Instr.opcode, Instr.operandBytes, List.nil_append, List.cons_append, List.getD_cons_zero,
      List.getD_cons_succ]
  case undefined op => exact decodeBytes_eq_undefined.mpr (List.contains_iff_mem.mp h)
  case adcAbs addr | adcAbsX addr | adcAbsY addr | andAbs addr | andAbsX addr | andAbsY addr | aslAbs addr
    | aslAbsX addr | bitAbs addr | cmpAbs addr | cmpAbsX addr | cmpAbsY addr | cpxAbs addr | cpyAbs addr
    | decAbs addr | decAbsX addr | eorAbs addr | eorAbsX addr | eorAbsY addr | incAbs addr | incAbsX addr
    | jmpAbs addr | jmpInd addr | jsr addr | ldaAbs addr | ldaAbsX addr | ldaAbsY addr | ldxAbs addr
    | ldxAbsY addr | ldyAbs addr | ldyAbsX addr | lsrAbs addr | lsrAbsX addr | oraAbs addr | oraAbsX addr
    | oraAbsY addr | rolAbs addr | rolAbsX addr | rorAbs addr | rorAbsX addr | sbcAbs addr | sbcAbsX addr
    | sbcAbsY addr | staAbs addr | staAbsX addr | staAbsY addr | stxAbs addr | styAbs addr =>
    conv_rhs => rw [← wordOfBytes_lo_hi addr]
    rfl
  all_goals rfl

theorem exists_decodeBytes (h : i.wellFormed = true) : ∃ b1 b2, decodeBytes i.opcode b1 b2 = i :=
  ⟨_, _, decodeBytes_encode h []⟩

/-- Settles O1: the decoder reads the instruction, finds its operand bytes all there, and drops as many. -/
theorem decodeOfEncode : Obligations.DecodeOfEncode := by
  intro i rest h
  simp only [encode, List.cons_append, decode, decodeBytes_encode h rest]
  simp

/-- Settles O3: every word is short enough to be decoded by evaluation. -/
theorem specWordsDecode : Obligations.SpecWordsDecode :=
  ⟨rfl, rfl, rfl, rfl, rfl, rfl, rfl, rfl, rfl, rfl, rfl, rfl, rfl, rfl, rfl, rfl, rfl, rfl, rfl⟩

/-! ## The bytes of what was decoded -/

theorem wellFormed_decodeBytes (b0 b1 b2 : Byte) : (decodeBytes b0 b1 b2).wellFormed = true := by
  induction b0 using byte_cases with
  | ofNat n hn => interval_cases n <;> rfl

/-- A format has from one to three bytes (R91). -/
theorem formatLength_bounds (op : Byte) : 1 ≤ formatLength op ∧ formatLength op ≤ 3 := by
  unfold formatLength
  cases opcodeMap op with
  | none => simp
  | some format => obtain ⟨mn, mode⟩ := format; cases mode <;> simp [Mode.operandLength]

/-- The bytes of a decoded instruction are those it was decoded from, as many as the format has (R91). -/
theorem encode_decodeBytes (b0 b1 b2 : Byte) :
    encode (decodeBytes b0 b1 b2) = [b0, b1, b2].take (formatLength b0) := by
  have hoperands : (decodeBytes b0 b1 b2).operandBytes =
      [[], [b1], [loByte (wordOfBytes b1 b2), hiByte (wordOfBytes b1 b2)]].getD (formatLength b0 - 1) [] := by
    induction b0 using byte_cases with
    | ofNat n hn => interval_cases n <;> rfl
  obtain ⟨hpos, hle⟩ := formatLength_bounds b0
  rw [encode, opcode_decodeBytes, hoperands]
  interval_cases formatLength b0 <;> simp

theorem length_operandBytes_decodeBytes (b0 b1 b2 : Byte) :
    (decodeBytes b0 b1 b2).operandBytes.length + 1 = formatLength b0 := by
  have hlen := congrArg List.length (encode_decodeBytes b0 b1 b2)
  have hle := (formatLength_bounds b0).2
  simpa [encode, hle] using hlen

/-- What the decoder accepts and what it answers, by the format of the first byte. -/
theorem decode_cons (op : Byte) (tail : List Byte) : decode (op :: tail) =
    if formatLength op ≤ (op :: tail).length then
      .ok (decodeBytes op (tail.getD 0 0#8) (tail.getD 1 0#8), (op :: tail).drop (formatLength op))
    else .error (.truncated op) := by
  simp only [decode, ← length_operandBytes_decodeBytes op (tail.getD 0 0#8) (tail.getD 1 0#8), List.length_cons,
    Nat.add_le_add_iff_right, List.drop_succ_cons]

/-- Reading 0 for a byte that is missing does no harm within the bytes at hand. -/
theorem take_getD {op : Byte} {tail : List Byte} {k : Nat} (hk : k ≤ 3) (hlen : k ≤ (op :: tail).length) :
    [op, tail.getD 0 0#8, tail.getD 1 0#8].take k = (op :: tail).take k := by
  match tail with
  | [] | [_] | _ :: _ :: _ =>
    simp only [List.length_cons, List.length_nil] at hlen
    interval_cases k <;> simp

/-- What the decoder answers is well formed, and its bytes and the bytes left are the list it read, cut at the format's
length. -/
theorem encode_of_decode {bs rest : List Byte} (h : decode bs = .ok (i, rest)) :
    i.wellFormed = true ∧ encode i ++ rest = bs := by
  cases bs with
  | nil => exact nomatch h
  | cons op tail =>
    rw [decode_cons] at h
    split_ifs at h with hlen
    obtain ⟨rfl, rfl⟩ := Prod.mk.inj (Except.ok.inj h)
    refine ⟨wellFormed_decodeBytes _ _ _, ?_⟩
    rw [encode_decodeBytes, take_getD (formatLength_bounds op).2 hlen, List.take_append_drop]

theorem decode_accepts (bs : List Byte) :
    (∃ i rest, decode bs = .ok (i, rest)) ↔ ∃ op tail, bs = op :: tail ∧ formatLength op ≤ bs.length := by
  cases bs with
  | nil => simp [decode]
  | cons op tail =>
    by_cases hlen : formatLength op ≤ tail.length + 1
    · simp [decode_cons, hlen]
    · simp [decode_cons, hlen]

/-- Settles O2: the two lemmas about what `decode` answers and what it accepts. -/
theorem encodeOfDecode : Obligations.EncodeOfDecode :=
  ⟨fun _ _ _ => encode_of_decode, decode_accepts⟩

/-! ## The outcome of an opcode byte -/

/-- The fault that an opcode byte ends in, if it does, in the order of R121: no Instruction, then the mode, then the
mnemonic (D21). -/
def opcodeFaultKind (op : Byte) : Option FeatureKind :=
  match opcodeMap op with
  | none => some .undefinedOpcode
  | some (mn, mode) =>
    if modeHandled mode = false then some .unhandledAddressingMode
    else if mn ∉ implementedMnemonics then some .unimplementedMnemonic
    else if mn = .bit then some .bitStub
    else none

/-- The bytes that end in no fault are those of R95. -/
theorem opcodeFaultKind_eq_none : ∀ {op : Byte}, opcodeFaultKind op = none ↔ op ∈ admittedOpcodes := by
  decide

theorem completes_iff {o : Result} : completes o = true ↔ ∃ t, o = .next t := by
  cases o <;> simp [completes]

/-- A decoded instruction answers a next state, or raises the fault of its opcode byte, whatever its operand and the
state (R95, R96). -/
theorem exec_decodeBytes_cases (b0 b1 b2 : Byte) (s : State) :
    (opcodeFaultKind b0 = none ∧ ∃ t, exec (decodeBytes b0 b1 b2) s = .next t) ∨
      ∃ kind, opcodeFaultKind b0 = some kind ∧ exec (decodeBytes b0 b1 b2) s = raiseFeature kind b0 s := by
  have houtcome : (opcodeFaultKind b0).elim (completes (exec (decodeBytes b0 b1 b2) s) = true)
      (fun kind => exec (decodeBytes b0 b1 b2) s = raiseFeature kind b0 s) := by
    induction b0 using byte_cases with
    | ofNat n hn => interval_cases n <;> exact rfl
  cases hkind : opcodeFaultKind b0 with
  | none =>
    rw [hkind] at houtcome
    exact .inl ⟨rfl, completes_iff.mp houtcome⟩
  | some kind =>
    rw [hkind] at houtcome
    exact .inr ⟨kind, rfl, houtcome⟩

theorem completes_exec_decodeBytes (b0 b1 b2 : Byte) (s : State) :
    completes (exec (decodeBytes b0 b1 b2) s) = (opcodeFaultKind b0).isNone := by
  rcases exec_decodeBytes_cases b0 b1 b2 s with ⟨hkind, t, ht⟩ | ⟨kind, hkind, hfault⟩
  · rw [hkind, ht]; rfl
  · rw [hkind, hfault]; rfl

theorem faultKind_exec_decodeBytes (b0 b1 b2 : Byte) (s : State) :
    faultKind (exec (decodeBytes b0 b1 b2) s) = opcodeFaultKind b0 := by
  rcases exec_decodeBytes_cases b0 b1 b2 s with ⟨hkind, t, ht⟩ | ⟨kind, hkind, hfault⟩
  · rw [hkind, ht]; rfl
  · rw [hkind, hfault]; rfl

/-- Settles O4: the outcomes are counted by the opcode bytes they depend on. -/
theorem opcodeClassesCounted : Obligations.OpcodeClassesCounted := by
  intro s b1 b2
  simp only [completes_exec_decodeBytes, faultKind_exec_decodeBytes]
  refine ⟨by decide, fun kind => ?_⟩
  cases kind <;> decide

/-- A well-formed instruction is a decoded one, so its outcome too is that of its opcode byte. -/
theorem exec_cases (h : i.wellFormed = true) (s : State) :
    (opcodeFaultKind i.opcode = none ∧ ∃ t, exec i s = .next t) ∨
      ∃ kind, opcodeFaultKind i.opcode = some kind ∧ exec i s = raiseFeature kind i.opcode s := by
  obtain ⟨b1, b2, hi⟩ := exists_decodeBytes h
  have hcases := exec_decodeBytes_cases i.opcode b1 b2 s
  rwa [hi] at hcases

/-- Settles O5: the bytes with no fault are the admitted ones. -/
theorem completesExactlyOnTheAdmittedSubset : Obligations.CompletesExactlyOnTheAdmittedSubset := by
  intro i s h
  rw [← opcodeFaultKind_eq_none]
  rcases exec_cases h s with ⟨hkind, t, ht⟩ | ⟨kind, hkind, hfault⟩
  · exact iff_of_true ⟨t, ht⟩ hkind
  · simp [hkind, hfault, raiseFeature]

end Sys2Proof.Machine
end

section
/-! The CPU step (R120, R121): it is the source's algorithm, the CPU's turn is the meaning of the instruction at Pc, Pc
advances by the table, and a mnemonic without a handler ends in its fault. -/

namespace Sys2Proof.Machine

variable {s : State} {i : Instr} {mn : Mnemonic} {mode : Mode}

/-- Settles O8: for each opcode byte, the constructor it decodes to means what the algorithm does. -/
theorem cpuStepIsTheAlgorithm : Obligations.CpuStepIsTheAlgorithm := cpuStep_eq_cpuStepAlgorithm

/-! ## The CPU's turn -/

/-- What the decoder answers on the three bytes from Pc on is what the CPU fetches there (R121, R122). -/
theorem eq_fetchInstr_of_decode {rest : List Byte}
    (h : decode [s.readCpu s.pc, s.readCpu (s.pc + 1), s.readCpu (s.pc + 2)] = .ok (i, rest)) :
    i = fetchInstr s := by
  rw [decode_cons] at h
  split_ifs at h
  exact (Prod.mk.inj (Except.ok.inj h)).1.symm

theorem step_of_nextTurn_cpu {us : List Turn} (hf : s.faultRecord = none) (hnext : s.nextTurn = (.cpu, us)) :
    step s = exec (fetchInstr s) (s.setTurns us) := by
  simp only [step, hnext, act, setTurns_faultRecord, hf]
  rfl

/-- Settles O6: in each shape of the schedule `nextTurn` answers the CPU's turn. -/
theorem stepRunsTheDecodedInstruction : Obligations.StepRunsTheDecodedInstruction := by
  intro s i rest hf hdec
  rw [eq_fetchInstr_of_decode hdec]
  refine ⟨fun ht hc => ?_, fun us ht => ?_, fun us ht hc => ?_⟩
  · have hsame : s.setTurns [] = s := by rw [← ht]; rfl
    rw [step_of_nextTurn_cpu (us := []) hf (by simp only [State.nextTurn, ht, hc]), hsame]
  · exact step_of_nextTurn_cpu hf (by simp only [State.nextTurn, ht])
  · exact step_of_nextTurn_cpu hf (by simp only [State.nextTurn, ht, hc])

/-! ## The Pc delta (R129, R130) -/

theorem ownsPc_iff : ownsPc mn = true ↔ mn = .jmp ∨ mn = .jsr ∨ mn = .rts ∨ mn = .rti := by
  simp [ownsPc, or_assoc]

theorem delta_of_ownsPc (h : ownsPc mn = true) (mode : Mode) : delta mode mn = 0 := if_pos h

theorem delta_indirect (mn : Mnemonic) : delta .indirect mn = 0 := ite_self _

/-- Where the handler does not own Pc, the delta is the format's length in bytes (R91). -/
theorem delta_of_not_ownsPc (h : ¬ ownsPc mn = true) (hmode : mode ≠ .indirect) :
    delta mode mn = 1 + mode.operandLength := by
  refine (if_neg h).trans ?_
  cases mode with
  | indirect => exact absurd rfl hmode
  | _ => rfl

/-- Settles O18: the table's rows are the lengths of the formats. -/
theorem deltaTable : Obligations.DeltaTable := by
  intro mn
  rw [← ownsPc_iff]
  refine ⟨delta_of_ownsPc, delta_indirect mn, fun h => ?_⟩
  have hlength {mode : Mode} (hmode : mode ≠ .indirect) := delta_of_not_ownsPc h hmode
  exact ⟨hlength nofun, hlength nofun, hlength nofun, hlength nofun, hlength nofun, hlength nofun, hlength nofun,
    hlength nofun, hlength nofun, hlength nofun, hlength nofun, hlength nofun⟩

/-! ## The fault of an instruction, by its mnemonic and mode -/

theorem wellFormed_of_mode? (h : i.mode? = some mode) : i.wellFormed = true := by
  cases i
  case undefined op => exact nomatch h
  all_goals rfl

/-- The map of R94 lists an opcode byte with the mnemonic and the mode of what it decodes to. -/
theorem opcodeMap_decodeBytes (b0 b1 b2 : Byte) :
    opcodeMap b0 = (decodeBytes b0 b1 b2).mnemonic?.bind fun mn => (decodeBytes b0 b1 b2).mode?.map (mn, ·) := by
  induction b0 using byte_cases with
  | ofNat n hn => interval_cases n <;> rfl

theorem opcodeMap_opcode (hmn : i.mnemonic? = some mn) (hmode : i.mode? = some mode) :
    opcodeMap i.opcode = some (mn, mode) := by
  obtain ⟨b1, b2, hi⟩ := exists_decodeBytes (wellFormed_of_mode? hmode)
  have hmap := opcodeMap_decodeBytes i.opcode b1 b2
  rwa [hi, hmn, hmode] at hmap

theorem exec_of_opcodeFaultKind {kind : FeatureKind} (h : i.wellFormed = true)
    (hkind : opcodeFaultKind i.opcode = some kind) (s : State) : exec i s = raiseFeature kind i.opcode s := by
  rcases exec_cases h s with ⟨hnone, -⟩ | ⟨kind', hkind', hfault⟩
  · exact nomatch hkind.symm.trans hnone
  · rwa [Option.some.inj (hkind.symm.trans hkind')]

/-- Settles O33: the fault of such an instruction's opcode byte is UnimplementedMnemonic. -/
theorem unimplementedMnemonicsFault : Obligations.UnimplementedMnemonicsFault := by
  intro i mn mode s hmn hmode hhandled hmem
  have hkind : opcodeFaultKind i.opcode = some .unimplementedMnemonic := by
    simp only [opcodeFaultKind, opcodeMap_opcode hmn hmode, hhandled, hmem]
    rfl
  exact exec_of_opcodeFaultKind (wellFormed_of_mode? hmode) hkind s

end Sys2Proof.Machine
end

section
/-! setZ, setN and setZN (R132 to R134): the flags each writes and those it leaves. -/

namespace Sys2Proof.Machine

/-- Settles O13: the flags after each are given by `flag_setFlag` and `flag_setZN`. -/
theorem setZNWritesTwoFlags : Obligations.SetZNWritesTwoFlags := by
  refine fun s v => ⟨?_, ?_, ?_, ?_, fun f hf => ?_, fun f hf => ?_, fun f hf => ?_, rfl⟩
  · simp [State.setZ]
  · simp [State.setN]
  · simp [flag_setZN]
  · simp [flag_setZN]
  · exact flag_setFlag_other s (List.ne_of_not_mem_cons hf) _
  · exact flag_setFlag_other s (List.ne_of_not_mem_cons hf) _
  · obtain ⟨hz, hn⟩ : f ≠ .z ∧ f ≠ .n := by simpa using hf
    rw [flag_setZN, if_neg hn, if_neg hz]

end Sys2Proof.Machine
end

section
/-! The stack (R135 to R138): the cells that pushing a byte or a word writes and leaves alone, and the cells that
popping reads. -/

namespace Sys2Proof.Machine

variable (s : State)

theorem stackAddr_eq_ofNat (sp : Byte) : stackAddr sp = BitVec.ofNat 16 (0x0100 + sp.toNat) := by
  rw [← stackAddr_toNat, BitVec.ofNat_toNat, BitVec.setWidth_eq]

theorem pred_toNat (sp : Byte) : (sp - 1).toNat = (sp.toNat + 255) % 256 := by
  bv_omega

theorem readCpu_push (v : Byte) (addr : Word) :
    (push v s).readCpu addr = if addr = stackAddr s.sp then v else s.readCpu addr :=
  readCpu_writeCpu s (stackAddr s.sp) addr v

theorem readCpu_push16 (v : Word) (addr : Word) :
    (push16 v s).readCpu addr =
      if addr = stackAddr (s.sp - 1) then loByte v else if addr = stackAddr s.sp then hiByte v else s.readCpu addr := by
  simp only [push16, readCpu_push, push_sp]

/-- Settles O14: the cell written is that of `readCpu_push`, and lies in page 1 because Sp is a byte. -/
theorem pushStoresThenDecrements : Obligations.PushStoresThenDecrements := by
  intro s v
  have hcell : (0x0100#16 ||| s.sp.setWidth 16).toNat = 256 + s.sp.toNat := stackAddr_toNat s.sp
  have hsp := s.sp.isLt
  exact ⟨readCpu_push s v, pred_toNat s.sp, rfl, by omega, by omega⟩

/-- Settles O15: the two cells of `readCpu_push16`, which are different, hold the two bytes. -/
theorem push16StoresHighThenLow : Obligations.Push16StoresHighThenLow := by
  intro s v
  rw [← pred_toNat, ← stackAddr_eq_ofNat, ← stackAddr_eq_ofNat]
  refine ⟨?_, ?_, fun addr hhi hlo => ?_, ?_, rfl⟩
  · rw [readCpu_push16, if_neg (stackAddr_ne_pred s.sp), if_pos rfl]
  · rw [readCpu_push16, if_pos rfl]
  · rw [readCpu_push16, if_neg hlo, if_neg hhi]
  · rw [push16_sp]
    bv_omega

/-- What pop16 answers: the two cells above Sp, the nearer one as the low byte (R137, R138). -/
theorem pop16_eq : pop16 s =
    (wordOfBytes (s.readCpu (stackAddr (s.sp + 1))) (s.readCpu (stackAddr (s.sp + 1 + 1))), s.setSp (s.sp + 1 + 1)) :=
  rfl

/-- Settles O16: the two cells above the Sp that push16 leaves are those it wrote. -/
theorem pop16UndoesPush16 : Obligations.Pop16UndoesPush16 := by
  refine fun s v => ⟨?_, rfl, rfl⟩
  rw [pop16_eq, push16_sp, BitVec.sub_add_cancel, BitVec.sub_add_cancel, readCpu_push16, readCpu_push16, if_pos rfl,
    if_neg (stackAddr_ne_pred s.sp), if_pos rfl, wordOfBytes_lo_hi]

end Sys2Proof.Machine
end

section
/-! The branches (R160 to R163): what a branch that completes stores to Pc, the target by the formula of R126. -/

namespace Sys2Proof.Machine

/-- A displacement byte as a signed number: a byte of 0x80 or more has 0x100 subtracted (R126). -/
theorem byte_toInt (b : Byte) : b.toInt = if b.toNat < 0x80 then (b.toNat : Int) else b.toNat - 0x100 := by
  rw [BitVec.toInt_eq_toNat_cond]
  split <;> split <;> omega

/-- The target of R126 as an integer sum, wrapped once. -/
theorem relativeTarget_eq_ofInt (pcv : Word) (rel : Byte) :
    relativeTarget pcv rel = BitVec.ofInt 16 (pcv.toNat + 2 + rel.toInt) := by
  rw [BitVec.ofInt_add, BitVec.ofInt_add, BitVec.ofInt_natCast, BitVec.ofNat_toNat, BitVec.setWidth_eq]
  rfl

/-- The displacement 0xFE is -2, which undoes the advance over the branch (R160). -/
theorem relativeTarget_self (pcv : Word) : relativeTarget pcv 0xFE#8 = pcv := by
  have hsext : sext16 0xFE#8 = -2 := by decide
  rw [relativeTarget, hsext, add_neg_cancel_right]

variable (mn : Mnemonic) (f : Flag) (want : Bool) (rel : Byte) (s : State)

/-- A branch stores to Pc only: the target if the flag has the wanted value, the address after the branch if not. -/
theorem branch_eq_setPc (hmn : ownsPc mn = false) :
    branch mn f want rel s = .next (s.setPc (if s.flag f = want then relativeTarget s.pc rel else s.pc + 2)) := by
  have hnext : s.advance .relative mn = s.setPc (s.pc + 2) := by simp [State.advance, delta, hmn]
  rw [branch, branchIf, flag_advance, hnext]
  by_cases h : s.flag f = want
  · rw [if_pos h, if_pos h]
    rfl
  · rw [if_neg h, if_neg h]

/-- A branch with its target in integer arithmetic, as R126 gives it. -/
theorem branch_eq_ofInt (hmn : ownsPc mn = false) :
    branch mn f want rel s = .next { s with pc := if s.flag f = want then
      (BitVec.ofInt 16 ((s.pc.toNat : Int) + 2 + (if rel.toNat < 0x80 then (rel.toNat : Int) else rel.toNat - 0x100)))
      else s.pc + 2 } := by
  rw [branch_eq_setPc mn f want rel s hmn, relativeTarget_eq_ofInt, byte_toInt]
  rfl

/-- A taken branch with displacement 0xFE jumps to itself. -/
theorem branch_self {s : State} (hmn : ownsPc mn = false) (h : s.flag f = want) :
    branch mn f want 0xFE#8 s = .next s := by
  rw [branch_eq_setPc mn f want _ s hmn, if_pos h, relativeTarget_self]
  rfl

/-- Settles O20: BCC and BCS are the branches on the Carry flag. -/
theorem branchesOnCarry : Obligations.BranchesOnCarry :=
  fun s rel => ⟨branch_eq_ofInt .bcc .c false rel s rfl, branch_eq_ofInt .bcs .c true rel s rfl⟩

/-- Settles O21: BEQ and BNE are the branches on the Zero flag, and BNE of 0xFE jumps to itself. -/
theorem branchesOnZero : Obligations.BranchesOnZero :=
  ⟨fun s rel => ⟨branch_eq_ofInt .beq .z true rel s rfl, branch_eq_ofInt .bne .z false rel s rfl⟩,
    fun _ hz => branch_self .bne .z false rfl hz⟩

end Sys2Proof.Machine
end

section
/-! The flag operations (R170, R171): what a one-byte instruction that writes one flag answers. -/

namespace Sys2Proof.Machine

variable (mn : Mnemonic) (f : Flag) (b : Bool) (s : State)

/-- Pc advances by one when the mode takes no operand byte and the mnemonic does not own Pc (R129). -/
theorem advance_implied (hmn : ownsPc mn = false) : s.advance .implied mn = s.setPc (s.pc + 1) := by
  simp [State.advance, delta, hmn]

/-- The flag takes the value, the other flags keep theirs, and the next state differs in P and Pc only (R27). -/
theorem next_setFlag_advance_implied (hmn : ownsPc mn = false) :
    ∃ p', (.next ((s.advance .implied mn).setFlag f b) : Result) = .next { s with p := p', pc := s.pc + 1 } ∧
      getFlag p' f = b ∧ ∀ g, g ≠ f → getFlag p' g = s.flag g := by
  rw [advance_implied mn s hmn]
  exact ⟨putFlag s.p f b, rfl, flag_setFlag_same s f b, fun _ hg => flag_setFlag_other s hg b⟩

/-- Settles O22: CLC writes false to the Carry flag of the advanced state. -/
theorem clcClearsCarry : Obligations.ClcClearsCarry :=
  ⟨rfl, fun s => next_setFlag_advance_implied .clc .c false s rfl⟩

/-- Settles O23: SEC writes true to the Carry flag of the advanced state. -/
theorem secSetsCarry : Obligations.SecSetsCarry :=
  ⟨rfl, fun s => next_setFlag_advance_implied .sec .c true s rfl⟩

end Sys2Proof.Machine
end

section
/-! The jumps (R180, R181): what JMP and JSR answer. Neither keeps the Pc of the advance: JMP writes over it, and JSR's
advance is by 0. -/

namespace Sys2Proof.Machine

variable (s : State)

theorem setPc_advance (mode : Mode) (mn : Mnemonic) (v : Word) : (s.advance mode mn).setPc v = s.setPc v := rfl

theorem exec_jmpAbs (addr : Word) : exec (.jmpAbs addr) s = .next (s.setPc addr) :=
  congrArg Host.Outcome.next (setPc_advance s .absolute .jmp addr)

/-- Settles O24: the handler sets Pc to the operand, and setting Pc to the value it has changes no state. -/
theorem jmpSetsPc : Obligations.JmpSetsPc :=
  ⟨exec_jmpAbs, fun s => exec_jmpAbs s s.pc, fun _ => rfl⟩

theorem callTo_sp_eq_sub_two (ea : Word) : (callTo ea s).sp = s.sp - 2 := by
  rw [callTo_sp]
  bv_omega

/-- A call changes Pc, Sp and CPU memory, and no other component (R181). -/
theorem callTo_frame (ea : Word) :
    callTo ea s = { s with pc := ea, sp := (callTo ea s).sp, cpuMem := (callTo ea s).cpuMem } := rfl

/-- `readCpu_callTo` in the order of the two pushes: as their cells differ, the later one hides nothing of the first. -/
theorem readCpu_callTo_high_first (ea addr : Word) :
    (callTo ea s).readCpu addr =
      if addr = stackAddr s.sp then hiByte (s.pc - 1)
      else if addr = stackAddr (s.sp - 1) then loByte (s.pc - 1) else s.readCpu addr := by
  rw [readCpu_callTo]
  by_cases hhi : addr = stackAddr s.sp
  · have hlo : addr ≠ stackAddr (s.sp - 1) := hhi ▸ stackAddr_ne_pred s.sp
    rw [if_neg hlo, if_pos hhi, if_pos hhi]
  · rw [if_neg hhi, if_neg hhi]

/-- Settles O25: JSR answers the call, whose Sp, cells and frame are those of the lemmas above. -/
theorem jsrPushesPcMinusOne : Obligations.JsrPushesPcMinusOne := by
  intro s addr
  have hsp := callTo_sp_eq_sub_two s addr
  exact ⟨callTo addr s, exec_jsr s addr, callTo_pc s addr, hsp, readCpu_callTo_high_first s addr,
    hsp ▸ callTo_frame s addr⟩

end Sys2Proof.Machine
end

section
/-! The loads (R190, R191): what a load of a byte into A or X answers, after Pc has moved past the operand. -/

namespace Sys2Proof.Machine

variable (s : State) (mode : Mode) (v : Byte)

/-- The flags setZN leaves: Z and N describe the byte, and the other six are as before (R134). -/
theorem setZN_flags :
    (s.setZN v).flag .z = decide (v = 0x00#8) ∧ (s.setZN v).flag .n = v.getLsbD 7 ∧
      ∀ f, f ∉ [Flag.z, Flag.n] → (s.setZN v).flag f = s.flag f := by
  obtain ⟨-, -, hz, hn, -, -, hrest, -⟩ := setZNWritesTwoFlags s v
  exact ⟨Bool.eq_iff_iff.mpr (hz.trans decide_eq_true_iff.symm), Bool.eq_iff_iff.mpr hn, hrest⟩

theorem loadA_advance :
    loadA v (s.advance mode .lda) =
      { s with a := v, p := (s.setZN v).p, pc := s.pc + BitVec.ofNat 16 (delta mode .lda) } := rfl

theorem loadX_advance :
    loadX v (s.advance mode .ldx) =
      { s with x := v, p := (s.setZN v).p, pc := s.pc + BitVec.ofNat 16 (delta mode .ldx) } := rfl

/-- A load into A changes A, P and Pc only, and P by `setZN_flags`. -/
theorem next_loadA_advance :
    ∃ p', (.next (loadA v (s.advance mode .lda)) : Result) =
        .next { s with a := v, p := p', pc := s.pc + BitVec.ofNat 16 (delta mode .lda) } ∧
      getFlag p' .z = decide (v = 0x00#8) ∧ getFlag p' .n = v.getLsbD 7 ∧
      ∀ f, f ∉ [Flag.z, Flag.n] → getFlag p' f = s.flag f :=
  ⟨(s.setZN v).p, congrArg _ (loadA_advance s mode v), setZN_flags s v⟩

/-- A load into X changes X, P and Pc only, and P by `setZN_flags`. -/
theorem next_loadX_advance :
    ∃ p', (.next (loadX v (s.advance mode .ldx)) : Result) =
        .next { s with x := v, p := p', pc := s.pc + BitVec.ofNat 16 (delta mode .ldx) } ∧
      getFlag p' .z = decide (v = 0x00#8) ∧ getFlag p' .n = v.getLsbD 7 ∧
      ∀ f, f ∉ [Flag.z, Flag.n] → getFlag p' f = s.flag f :=
  ⟨(s.setZN v).p, congrArg _ (loadX_advance s mode v), setZN_flags s v⟩

/-- Settles O26: each mode loads its own byte, and the delta of LDA evaluates to 2, 2 and 3. -/
theorem ldaLoadsAndSetsZN : Obligations.LdaLoadsAndSetsZN :=
  fun s => ⟨fun imm => next_loadA_advance s .immediate imm,
    fun zp => next_loadA_advance s .zeroPage (s.readCpu (zeroPageAddr zp)),
    fun addr => next_loadA_advance s .absolute (s.readCpu addr)⟩

/-- Settles O27: each mode loads its own byte, and the delta of LDX evaluates to 2, 2 and 3. -/
theorem ldxLoadsAndSetsZN : Obligations.LdxLoadsAndSetsZN :=
  fun s => ⟨fun imm => next_loadX_advance s .immediate imm,
    fun zp => next_loadX_advance s .zeroPage (s.readCpu (zeroPageAddr zp)),
    fun addr => next_loadX_advance s .absolute (s.readCpu addr)⟩

end Sys2Proof.Machine
end

section
/-! The stores (R200 to R202): what a store of a register's byte to one cell answers, after Pc has moved past the
operand. -/

namespace Sys2Proof.Machine

variable (s : State) (mode : Mode) (mn : Mnemonic) (ea : Word) (v : Byte)

theorem writeCpu_advance :
    (s.advance mode mn).writeCpu ea v =
      { s with pc := s.pc + BitVec.ofNat 16 (delta mode mn), cpuMem := s.cpuMem.write ea v } := rfl

/-- A store changes Pc and CPU memory only, and of CPU memory the cell at its address only. -/
theorem next_writeCpu_advance :
    ∃ t, (.next ((s.advance mode mn).writeCpu ea v) : Result) = .next t ∧
      t = { s with pc := s.pc + BitVec.ofNat 16 (delta mode mn), cpuMem := t.cpuMem } ∧
      ∀ a, t.readCpu a = if a = ea then v else s.readCpu a :=
  ⟨_, rfl, writeCpu_advance s mode mn ea v, fun a => readCpu_writeCpu (s.advance mode mn) ea a v⟩

/-- Settles O28: each mode stores A to its own address, and the delta of STA evaluates to 2 and 3. -/
theorem staStoresOneByte : Obligations.StaStoresOneByte :=
  fun s => ⟨fun zp => next_writeCpu_advance s .zeroPage .sta (zeroPageAddr zp) s.a,
    fun addr => next_writeCpu_advance s .absolute .sta addr s.a⟩

/-- Settles O29: each mode stores X to its own address, and the delta of STX evaluates to 2 and 3. -/
theorem stxStoresOneByte : Obligations.StxStoresOneByte :=
  fun s => ⟨fun zp => next_writeCpu_advance s .zeroPage .stx (zeroPageAddr zp) s.x,
    fun addr => next_writeCpu_advance s .absolute .stx addr s.x⟩

/-- Settles O30: each mode stores Y to its own address, and the delta of STY evaluates to 2 and 3. -/
theorem styStoresOneByte : Obligations.StyStoresOneByte :=
  fun s => ⟨fun zp => next_writeCpu_advance s .zeroPage .sty (zeroPageAddr zp) s.y,
    fun addr => next_writeCpu_advance s .absolute .sty addr s.y⟩

end Sys2Proof.Machine
end

section
/-! NOP and the BIT stub (R210, R211): what each answers. -/

namespace Sys2Proof.Machine

theorem exec_nop (s : State) : exec .nop s = .next (s.setPc (s.pc + 1)) :=
  congrArg Host.Outcome.next (advance_implied .nop s rfl)

/-- Settles O31: the handler leaves the advanced state, and a 16-bit sum with 1 is the sum modulo 65536. -/
theorem nopOnlyAdvancesPc : Obligations.NopOnlyAdvancesPc := by
  intro s
  have hpc : s.pc + 1 = BitVec.ofNat 16 ((s.pc.toNat + 1) % 65536) := by bv_omega
  rw [← hpc]
  exact exec_nop s

/-- Settles O32: the fault of both opcode bytes is BitStub, and an instruction's opcode byte does not depend on its
operand. -/
theorem bitAlwaysFaults : Obligations.BitAlwaysFaults := by
  have hzp : opcodeFaultKind 0x24#8 = some .bitStub := rfl
  have habs : opcodeFaultKind 0x2C#8 = some .bitStub := rfl
  exact fun s => ⟨fun zp => exec_of_opcodeFaultKind (i := .bitZp zp) rfl hzp s,
    fun addr => exec_of_opcodeFaultKind (i := .bitAbs addr) rfl habs s⟩

end Sys2Proof.Machine
end

section
/-! The faults of the CPU step (R261, R262): the fault of an opcode byte in an unhandled mode, and of one with no
Instruction. -/

namespace Sys2Proof.Machine

variable {i : Instr} {mode : Mode}

/-- Every row of the map has a mnemonic beside its mode (R94). -/
theorem exists_mnemonic? (h : i.mode? = some mode) : ∃ mn, i.mnemonic? = some mn := by
  cases i
  case undefined op => exact nomatch h
  all_goals exact ⟨_, rfl⟩

theorem opcodeFaultKind_of_unhandledMode (h : i.mode? = some mode) (hmode : modeHandled mode = false) :
    opcodeFaultKind i.opcode = some .unhandledAddressingMode := by
  obtain ⟨mn, hmn⟩ := exists_mnemonic? h
  simp only [opcodeFaultKind, opcodeMap_opcode hmn h, if_pos hmode]

/-- Settles O34: the eight modes are those that `modeHandled` rejects, which gives the fault of the opcode byte. -/
theorem unhandledModesFault : Obligations.UnhandledModesFault := by
  intro i mode s h hmode
  have hunhandled : modeHandled mode = false := by
    rcases hmode with rfl | rfl | rfl | rfl | rfl | rfl | rfl | rfl <;> rfl
  exact exec_of_opcodeFaultKind (wellFormed_of_mode? h) (opcodeFaultKind_of_unhandledMode h hunhandled) s

/-- Settles O35: the meaning of `undefined` raises the fault; which bytes decode to it is
`decodeBytes_eq_undefined`. -/
theorem undefinedOpcodesFault : Obligations.UndefinedOpcodesFault :=
  ⟨fun _ _ => rfl, rfl, fun _ _ _ => decodeBytes_eq_undefined⟩

end Sys2Proof.Machine
end

section
/-! What a PPU step answers, by the phase of the new position (R274 to R283): one equation for each of the four ways it
can go, and one lemma that says there are no others. -/

namespace Sys2Proof.Machine

variable {s t : State}

/-- Settles O39: the rows of the table are the branches of `classify`. -/
theorem phaseTable : Obligations.PhaseTable := by
  intro sl c hc
  unfold classify
  split_ifs <;> simp <;> omega

/-! ## The counters of a tick -/

theorem tick_eq_of_counters (s : State) :
    tick s = { s with
      ppuCycles := (tick s).ppuCycles, scanline := (tick s).scanline, frameCount := (tick s).frameCount } := by
  obtain ⟨_, _, _, h⟩ := tick_eq_setCounters s
  rw [h]
  rfl

@[simp] theorem tick_scrollY (s : State) : (tick s).scrollY = s.scrollY := by
  rw [tick_eq_of_counters]

theorem tick_of_dot_lt (h : s.ppuCycles.val < 340) : tick s = s.setPpuCycles ⟨s.ppuCycles.val + 1, by omega⟩ :=
  dif_neg (by omega)

/-- The counters of `t` are those of `s` after `k` dots, counted by position and whole frames (R284). -/
structure DotsLater (k : Nat) (s t : State) : Prop where
  line_le : t.scanline ≤ 261
  position_eq : position t = (position s + k) % 89342
  frameCount_eq : t.frameCount = s.frameCount + (position s + k) / 89342

theorem position_lt (hs : s.scanline ≤ 261) : position s < 89342 := by
  have hdot := s.ppuCycles.isLt
  unfold position
  omega

theorem dotsLater_zero (hs : s.scanline ≤ 261) : DotsLater 0 s s := by
  have hpos := position_lt hs
  exact ⟨hs, by omega, by omega⟩

theorem DotsLater.trans {u : State} {j k : Nat} (hst : DotsLater j s t) (htu : DotsLater k t u) :
    DotsLater (j + k) s u := by
  obtain ⟨-, hposT, hframeT⟩ := hst
  obtain ⟨hline, hposU, hframeU⟩ := htu
  exact ⟨hline, by omega, by omega⟩

/-- A tick moves the counters by one dot: 340 wraps into the scanline, 261 into the frame count (R271 to R273). -/
theorem dotsLater_tick (hs : s.scanline ≤ 261) : DotsLater 1 s (tick s) := by
  rcases tick_cases s with ⟨hdot, h⟩ | ⟨hdot, hline, h⟩ | ⟨hdot, hline, h⟩
  · constructor <;> simp [h, position] <;> omega
  · constructor <;> simp [h, position, hdot] <;> omega
  · constructor <;> simp [h, position, hdot] <;> omega

/-! ## The outcome of a step, by phase -/

/-- The new position is neither Visible nor VBlank entry nor Invalid. -/
def QuietMove (s : State) : Prop :=
  classify (tick s).scanline (tick s).ppuCycles.val ∈
    [.render .idle, .render .preFetch, .postRender, .preRender .idle, .preRender .clearVBlank, .preRender .reloadY] ∨
  (classify (tick s).scanline (tick s).ppuCycles.val = .vBlank ∧
    ¬ ((tick s).scanline = 241 ∧ (tick s).ppuCycles = 0))

theorem quietMove_of_position (hline : (tick s).scanline ≤ 261)
    (hvis : ¬ ((tick s).scanline ≤ 239 ∧ 1 ≤ (tick s).ppuCycles.val ∧ (tick s).ppuCycles.val ≤ 256))
    (hentry : ¬ ((tick s).scanline = 241 ∧ (tick s).ppuCycles = 0)) : QuietMove s := by
  unfold QuietMove classify
  split_ifs <;> simp <;> omega

theorem ppuStep_of_quietMove (h : QuietMove s) : ppuStep s = .next (tick s) := by
  rcases h with h | ⟨h, hentry⟩
  · simp only [List.mem_cons, List.not_mem_nil, or_false] at h
    rcases h with h | h | h | h | h | h <;> simp only [ppuStep, h]
  · simp only [ppuStep, h, if_neg hentry]

theorem ppuStep_of_vBlankEntry (hline : (tick s).scanline = 241) (hdot : (tick s).ppuCycles = 0) :
    ppuStep s = .next (enterVBlank (tick s)) := by
  have hphase : classify (tick s).scanline (tick s).ppuCycles.val = .vBlank := by rw [hline, hdot]; rfl
  simp only [ppuStep, hphase, if_pos (And.intro hline hdot)]

theorem ppuStep_of_invalid (hline : 261 < (tick s).scanline) :
    ppuStep s = .fault (.invariantViolation (tick s).scanline (tick s).ppuCycles.val) := by
  obtain ⟨-, -, -, -, -, -, -, -, hinvalid⟩ := phaseTable (tick s).scanline (tick s).ppuCycles.val (by omega)
  simp only [ppuStep, hinvalid.mpr hline]

/-- What a PPU step can answer from counters in range (R283). -/
theorem ppuStep_cases (hs : s.scanline ≤ 261) :
    ppuStep s = .next (tick s) ∨ ppuStep s = .next (enterVBlank (tick s)) ∨
    ((tick s).scanline ≤ 239 ∧
      ppuStep s = renderPixel ((tick s).ppuCycles.val - 1) (tick s).scanline (tick s)) := by
  by_cases hvis : (tick s).scanline ≤ 239 ∧ 1 ≤ (tick s).ppuCycles.val ∧ (tick s).ppuCycles.val ≤ 256
  · exact .inr (.inr ⟨hvis.1, ppuStep_of_visible (classify_visible.mpr hvis)⟩)
  · by_cases hentry : (tick s).scanline = 241 ∧ (tick s).ppuCycles = 0
    · exact .inr (.inl (ppuStep_of_vBlankEntry hentry.1 hentry.2))
    · exact .inl (ppuStep_of_quietMove (quietMove_of_position (tick_scanline_le hs) hvis hentry))

/-- Settles O41: a quiet move is the tick, which stores the counters only. -/
theorem quietPhasesMoveCountersOnly : Obligations.QuietPhasesMoveCountersOnly :=
  fun s h => ⟨tick s, ppuStep_of_quietMove h, tick_eq_of_counters s⟩

/-- Settles O40: the tick from (240, 340) arrives at (241, 0), where the step enters VBlank. -/
theorem vBlankEntry : Obligations.VBlankEntry := by
  intro s hdot hline
  have htick : tick s = (s.setPpuCycles 0).setScanline 241 := by simp [tick, hdot, hline]
  rw [ppuStep_of_vBlankEntry (by simp [htick]) (by simp [htick]), enterVBlank_eq, htick]
  rfl

/-! ## A step that draws -/

theorem renderPixel_of_row {x y : Nat} (h : y + s.scrollY.toNat ≤ 239) :
    renderPixel x y s = .next (s.setScreen (s.screen.write x (y + s.scrollY.toNat)
      (pixelColour x (y + s.scrollY.toNat) s))) :=
  if_neg (Nat.not_lt.mpr h)

theorem renderPixel_of_no_row {x y : Nat} (h : 239 < y + s.scrollY.toNat) :
    renderPixel x y s = .fault (.framebufferRow x (y + s.scrollY.toNat)) :=
  if_pos h

/-- From the position before a Visible dot the step draws that dot (R278). -/
theorem ppuStep_of_visible_dot (hx : s.ppuCycles.val ≤ 255) (hy : s.scanline ≤ 239) :
    ppuStep s = renderPixel s.ppuCycles.val s.scanline (s.setPpuCycles ⟨s.ppuCycles.val + 1, by omega⟩) := by
  have htick := tick_of_dot_lt (s := s) (by omega)
  have hvis : classify (tick s).scanline (tick s).ppuCycles.val = .render .visible := by
    rw [htick]
    exact classify_visible.mpr ⟨hy, Nat.le_add_left 1 _, Nat.succ_le_succ hx⟩
  rw [ppuStep_of_visible hvis, htick]
  rfl

/-- The step that draws a Visible dot whose row exists (R278, R300). -/
theorem ppuStep_draws (hx : s.ppuCycles.val ≤ 255) (hy : s.scanline ≤ 239)
    (hrow : s.scanline + s.scrollY.toNat ≤ 239) :
    ppuStep s = .next ((s.setPpuCycles ⟨s.ppuCycles.val + 1, by omega⟩).setScreen
      (s.screen.write s.ppuCycles.val (s.scanline + s.scrollY.toNat)
        (pixelColour s.ppuCycles.val (s.scanline + s.scrollY.toNat) s))) :=
  (ppuStep_of_visible_dot hx hy).trans (renderPixel_of_row hrow)

/-- Settles O43: the Visible dot is drawn to a row that the framebuffer does not have. -/
theorem rowOutsideTheFramebufferFaults : Obligations.RowOutsideTheFramebufferFaults := by
  rintro s x y rfl rfl hx hy hrow
  rw [ppuStep_of_visible_dot hx hy]
  exact renderPixel_of_no_row hrow

/-! ## In-range counters -/

/-- Settles O45: from counters in range no case of `ppuStep_cases` is the violation; above the range the tick keeps the
scanline, since it does not wrap the dot. -/
theorem invariantViolationOnlyOutOfRange : Obligations.InvariantViolationOnlyOutOfRange := by
  refine ⟨fun s hs sl c hfault => ?_, fun s hdot hline => ?_⟩
  · rcases ppuStep_cases hs with h | h | ⟨-, h⟩ <;> rw [h] at hfault
    · exact nomatch hfault
    · exact nomatch hfault
    · unfold renderPixel at hfault
      simp only at hfault
      split_ifs at hfault
      exact nomatch Host.Outcome.fault.inj hfault
  · have htick := tick_of_dot_lt hdot
    rw [ppuStep_of_invalid (by rwa [htick]), htick]
    rfl

/-- The counters after a step that completes are those of the tick (R283). -/
theorem dotsLater_ppuStep (hs : s.scanline ≤ 261) (h : ppuStep s = .next t) : DotsLater 1 s t := by
  obtain ⟨hline, hpos, hframe⟩ := dotsLater_tick hs
  rcases ppuStep_next h with rfl | ⟨_, _, rfl⟩ | ⟨_, _, _, hr⟩
  · exact ⟨hline, hpos, hframe⟩
  · rw [enterVBlank_eq]
    exact ⟨hline, hpos, hframe⟩
  · obtain ⟨_, rfl⟩ := renderPixel_next hr
    exact ⟨hline, hpos, hframe⟩

/-- With ScrollY = 0 every drawn row exists, so every step completes (R301). -/
theorem ppuStep_completes (hs : s.scanline ≤ 261) (hscroll : s.scrollY = 0x00#8) : ∃ t, ppuStep s = .next t := by
  rcases ppuStep_cases hs with h | h | ⟨hline, h⟩
  · exact ⟨_, h⟩
  · exact ⟨_, h⟩
  · exact ⟨_, h.trans (renderPixel_of_row (by simpa [hscroll] using hline))⟩

/-- Settles O38: the counters are read off the position one dot later. -/
theorem ppuCountersAdvance : Obligations.PpuCountersAdvance := by
  refine fun s hs => ⟨fun t h => ?_, ppuStep_completes hs⟩
  obtain ⟨hline, hpos, hframe⟩ := dotsLater_ppuStep hs h
  have hdot := s.ppuCycles.isLt
  have hdot' := t.ppuCycles.isLt
  unfold position at hpos hframe
  refine ⟨?_, ?_, ?_⟩ <;> split_ifs <;> omega

end Sys2Proof.Machine
end

section
/-! The renderer (R290 to R301): the pixel in natural-number arithmetic over PPU memory, and what the renderer does not
look at. -/

namespace Sys2Proof.Machine

variable (s : State) (x y' : Nat)

/-- A bit of a byte as a number. -/
theorem getLsbD_toNat (b : Byte) (i : Nat) : (b.getLsbD i).toNat = b.toNat / 2 ^ i % 2 :=
  Nat.toNat_testBit b.toNat i

/-- The six low bits of a palette-index byte (R298). -/
theorem paletteIndex_eq (b : Byte) : paletteIndex b = BitVec.ofNat 6 (b.toNat % 64) := by
  refine BitVec.eq_of_toNat_eq ?_
  have hmask : ∀ n, n &&& 63 = n % 64 := fun n => Nat.and_two_pow_sub_one_eq_mod n 6
  simp [paletteIndex, hmask]

theorem patternAddr_eq :
    patternAddr x y' s =
      BitVec.ofNat 16 (16 * (s.readPpu (nameTableCell x y' s)).toNat + y' % 8 + s.backgroundTableAddr.toNat) := by
  rw [patternAddr, Nat.mul_comm]

/-- The second byte of a pattern row lies at `pa + 8`, `pa` a sum of natural numbers (R295, D9, D16). -/
theorem patternAddr_add_eight :
    patternAddr x y' s + 8 =
      BitVec.ofNat 16 (16 * (s.readPpu (nameTableCell x y' s)).toNat + y' % 8 + s.backgroundTableAddr.toNat + 8) := by
  rw [patternAddr_eq]
  exact (BitVec.ofNat_add ..).symm

/-- The colour of a pixel from the two bytes of its pattern row (R297 to R299, D17). -/
theorem pixelColour_eq :
    pixelColour x y' s = Config.palette (BitVec.ofNat 6 ((s.readPpu (BitVec.ofNat 16 (0x3F00 +
      2 * ((s.readPpu (patternAddr x y' s + 8)).toNat / 2 ^ (7 - x % 8) % 2) +
        (s.readPpu (patternAddr x y' s)).toNat / 2 ^ (7 - x % 8) % 2))).toNat % 64)) := by
  simp only [pixelColour, paletteIndex_eq, paletteCell, patternPixel, twoBits, getLsbD_toNat, pixelBit, Nat.add_assoc]

/-- Settles O42: the step draws the dot, whose colour the lemmas above give, to a row the framebuffer has. -/
theorem visibleDotRendersItsPixel : Obligations.VisibleDotRendersItsPixel := by
  rintro s x y rfl rfl hx hy hrow
  have hx' := Nat.lt_succ_of_le hx
  refine ⟨_, ppuStep_draws hx hy hrow, ⟨?_, fun x' y'' hlt hother => ?_⟩, rfl, rfl⟩
  · refine (screen_read_write _ hx' hx' _).trans ((if_pos ⟨rfl, rfl⟩).trans ?_)
    rw [pixelColour_eq, patternAddr_add_eight, patternAddr_eq]
    rfl
  · exact (screen_read_write _ hx' hlt _).trans (if_neg hother)

/-! ## ScrollX (R291, D34) -/

theorem tick_setScrollX (v : Byte) : tick (s.setScrollX v) = (tick s).setScrollX v := by
  have hdot : (s.setScrollX v).ppuCycles = s.ppuCycles := rfl
  have hline : (s.setScrollX v).scanline = s.scanline := rfl
  unfold tick
  simp only [hdot, hline]
  split_ifs <;> rfl

theorem renderPixel_setScrollX (v : Byte) (y : Nat) :
    renderPixel x y (s.setScrollX v) = mapNext (·.setScrollX v) (renderPixel x y s) := by
  by_cases hrow : y + s.scrollY.toNat ≤ 239
  · rw [renderPixel_of_row hrow]
    exact renderPixel_of_row (s := s.setScrollX v) hrow
  · rw [renderPixel_of_no_row (Nat.lt_of_not_le hrow)]
    exact renderPixel_of_no_row (s := s.setScrollX v) (Nat.lt_of_not_le hrow)

theorem ppuStep_setScrollX (v : Byte) : ppuStep (s.setScrollX v) = mapNext (·.setScrollX v) (ppuStep s) := by
  refine ppuStep_map (f := (·.setScrollX v)) (tick_setScrollX s v) rfl rfl ?_ fun _ => renderPixel_setScrollX _ _ v _
  rw [enterVBlank_eq, enterVBlank_eq]
  rfl

/-- Settles O44: a change of ScrollX commutes with the step. -/
theorem scrollXHasNoEffect : Obligations.ScrollXHasNoEffect :=
  fun s v => ⟨fun t ht => by rw [ppuStep_setScrollX, ht]; rfl, fun f hf => by rw [ppuStep_setScrollX, hf]; rfl⟩

end Sys2Proof.Machine
end

section
/-! Runs of the PPU (R284, R285): the counters after any number of dots from counters in range, and the run from
`reset()` to the first dot drawn. -/

namespace Sys2Proof.Machine

section
variable {engine : State → Result} {s t : State} {j : Nat}

theorem runEngine_succ_of_next (h : engine s = .next t) (k : Nat) :
    runEngine engine (k + 1) s = runEngine engine k t := by
  simp only [runEngine, h]

/-- A run goes on from where its first part ends. -/
theorem runEngine_add (h : runEngine engine j s = .next t) (k : Nat) :
    runEngine engine (j + k) s = runEngine engine k t := by
  induction j generalizing s with
  | zero =>
    rw [Nat.zero_add, Host.Outcome.next.inj h]
  | succ j ih =>
    rw [Nat.succ_add]
    cases hstep : engine s with
    | next u =>
      rw [runEngine_succ_of_next hstep] at h ⊢
      exact ih h
    | fault f => simp only [runEngine, hstep] at h; exact nomatch h
    | refused r => simp only [runEngine, hstep] at h; exact nomatch h

theorem runEngine_one : runEngine engine 1 s = engine s := by
  cases h : engine s <;> simp only [runEngine, h]

end

variable {s t : State}

/-! ## From any counters in range (R284) -/

theorem ppuStep_scrollY (h : ppuStep s = .next t) : t.scrollY = s.scrollY := by
  obtain ⟨_, _, _, _, _, _, rfl⟩ := ppuStep_eq_stores h
  simp

/-- With ScrollY = 0 a run of PPU steps completes, and leaves the counters as many dots later. -/
theorem runEngine_ppuStep (hs : s.scanline ≤ 261) (hscroll : s.scrollY = 0x00#8) (k : Nat) :
    ∃ t, runEngine ppuStep k s = .next t ∧ DotsLater k s t := by
  induction k generalizing s with
  | zero => exact ⟨s, rfl, dotsLater_zero hs⟩
  | succ k ih =>
    obtain ⟨u, hu⟩ := ppuStep_completes hs hscroll
    have hone := dotsLater_ppuStep hs hu
    obtain ⟨t, ht, hlater⟩ := ih hone.line_le ((ppuStep_scrollY hu).trans hscroll)
    exact ⟨t, (runEngine_succ_of_next hu k).trans ht, Nat.add_comm 1 k ▸ hone.trans hlater⟩

/-- Settles O46: a run of `k` steps ends `k` dots later; 341 dots are one scanline and 89342 one frame. -/
theorem ppuFramePeriod : Obligations.PpuFramePeriod := by
  intro s hs hscroll
  have hrun := runEngine_ppuStep hs hscroll
  have hdot := s.ppuCycles.isLt
  refine ⟨fun k => ?_, ?_, ?_⟩
  · obtain ⟨t, ht, hline, hpos, hframe⟩ := hrun k
    exact ⟨t, ht, hpos, hline, hframe⟩
  · obtain ⟨t, ht, hline, hpos, -⟩ := hrun 341
    have hdot' := t.ppuCycles.isLt
    unfold position at hpos
    exact ⟨t, ht, Fin.ext (by omega), by omega⟩
  · obtain ⟨t, ht, hline, hpos, hframe⟩ := hrun 89342
    have hdot' := t.ppuCycles.isLt
    unfold position at hpos hframe
    exact ⟨t, ht, Fin.ext (by omega), by omega, by omega⟩

/-! ## From `reset()` (R285, C2) -/

/-- The position of VBlank entry (D12). -/
def vBlankPosition : Nat := 341 * 241

/-- From VBlank entry to the first dot of the next frame the move is quiet. -/
theorem quietMove_of_blank (hs : s.scanline ≤ 261) (hpos : vBlankPosition ≤ position s) : QuietMove s := by
  obtain ⟨hline, hnew, -⟩ := dotsLater_tick hs
  have hdot := (tick s).ppuCycles.isLt
  have hold := position_lt hs
  unfold vBlankPosition at hpos
  rw [position] at hnew
  refine quietMove_of_position hline (by omega) ?_
  rintro ⟨hentry, hzero⟩
  have hzero' : (tick s).ppuCycles.val = 0 := congrArg Fin.val hzero
  omega

/-- From VBlank entry on, PPU steps up to the first dot of the next frame move the counters only. -/
theorem runEngine_ppuStep_of_blank (hs : s.scanline ≤ 261) (hpos : vBlankPosition ≤ position s) (k : Nat)
    (hk : position s + k ≤ 89342) :
    ∃ t, runEngine ppuStep k s = .next t ∧ DotsLater k s t ∧
      t = { s with ppuCycles := t.ppuCycles, scanline := t.scanline, frameCount := t.frameCount } := by
  induction k with
  | zero => exact ⟨s, rfl, dotsLater_zero hs, rfl⟩
  | succ k ih =>
    obtain ⟨t, ht, hlater, hframe⟩ := ih (by omega)
    have hblank : vBlankPosition ≤ position t := by
      have hposT := hlater.position_eq
      omega
    refine ⟨tick t, ?_, hlater.trans (dotsLater_tick hlater.line_le), ?_⟩
    · rw [runEngine_add ht 1, runEngine_one]
      exact ppuStep_of_quietMove (quietMove_of_blank hlater.line_le hblank)
    · rw [tick_eq_of_counters t, hframe]

/-- The state after the first PPU step from `reset()`: VBlank entry (R285). -/
def afterResetStep (s : State) : State :=
  { s with
    ppuCycles := 0, scanline := 241, verticalBlank := true, latch := if s.generateNmi then .nmi else s.latch }

theorem ppuStep_resetPpu (s : State) : ppuStep (resetPpu s) = .next (afterResetStep s) :=
  vBlankEntry (resetPpu s) rfl rfl

/-- The states of the first 7162 steps from `reset()`: VBlank entry with the counters further on. -/
theorem runEngine_ppuStep_resetPpu (s : State) (k : Nat) (hk : k ≤ 7161) :
    ∃ t, runEngine ppuStep (k + 1) (resetPpu s) = .next t ∧ DotsLater k (afterResetStep s) t ∧
      t = { afterResetStep s with ppuCycles := t.ppuCycles, scanline := t.scanline, frameCount := t.frameCount } := by
  have hentry : position (afterResetStep s) = vBlankPosition := rfl
  have hlast : vBlankPosition + 7161 = 89342 := rfl
  rw [runEngine_succ_of_next (ppuStep_resetPpu s)]
  exact runEngine_ppuStep_of_blank (by decide : 241 ≤ 261) hentry.ge k (by omega)

/-- The step from (0, 0) draws the first dot (R285). -/
theorem ppuStep_of_frame_start (hpos : position t = 0) (hrow : t.scrollY.toNat ≤ 239) :
    ∃ u c, ppuStep t = .next u ∧ u.scanline = 0 ∧ u.ppuCycles = 1 ∧
      u.screen = t.screen.write 0 t.scrollY.toNat c := by
  obtain ⟨hline, hdot⟩ : t.scanline = 0 ∧ t.ppuCycles.val = 0 := by
    unfold position at hpos
    omega
  have hstep := ppuStep_draws (s := t) (by omega) (by omega) (by omega)
  exact ⟨_, pixelColour 0 t.scrollY.toNat t, hstep, hline, Fin.ext (congrArg (· + 1) hdot), by simp [hline, hdot]⟩

/-- Settles O47: step `k + 1` is `k` dots after VBlank entry, and 7161 dots after it the next frame begins. -/
theorem firstFrameAfterPpuReset : Obligations.FirstFrameAfterPpuReset := by
  intro s
  have hentry : position (afterResetStep s) = 82181 := rfl
  have hframes : (afterResetStep s).frameCount = s.frameCount := rfl
  refine ⟨fun k hone hk => ?_, fun hrow => ?_⟩
  · obtain ⟨k, rfl⟩ := Nat.exists_eq_add_of_le' hone
    obtain ⟨t, ht, ⟨hline, hpos, hframe⟩, heq⟩ := runEngine_ppuStep_resetPpu s k (by omega)
    have hdot := t.ppuCycles.isLt
    rw [hentry, position] at hpos
    rw [hentry, hframes] at hframe
    refine ⟨t, ht, ?_, ?_, ?_, ?_, fun hfirst => ⟨by omega, Fin.ext ?_⟩, fun hlast => ⟨by omega, Fin.ext ?_⟩⟩
    · rw [heq]; rfl
    · rw [heq]; rfl
    · rw [heq]; rfl
    · split_ifs <;> omega
    · show t.ppuCycles.val = 0
      omega
    · show t.ppuCycles.val = 0
      omega
  · obtain ⟨t, ht, ⟨-, hpos, -⟩, heq⟩ := runEngine_ppuStep_resetPpu s 7161 (Nat.le_refl _)
    have hscroll : t.scrollY = s.scrollY := by rw [heq]; rfl
    have hscreen : t.screen = s.screen := by rw [heq]; rfl
    rw [hentry] at hpos
    obtain ⟨u, c, hu, hrest⟩ := ppuStep_of_frame_start hpos (hscroll ▸ hrow)
    rw [hscroll, hscreen] at hrest
    exact ⟨u, c, (runEngine_add ht 1).trans (runEngine_one.trans hu), hrest⟩

end Sys2Proof.Machine
end

section
/-! Turns other than the CPU's (R347, R352): the step when the PPU or the host is next, what each host action stores, and
the step once a fault is on record (R315). -/

namespace Sys2Proof.Machine

variable {s t : State} {us : List Turn}

theorem nextTurn_of_listed {turn : Turn} (h : s.turns = turn :: us ∨ s.turns = [] ∧ s.cycle = turn :: us) :
    s.nextTurn = (turn, us) := by
  rcases h with ht | ⟨ht, hc⟩
  · simp only [State.nextTurn, ht]
  · simp only [State.nextTurn, ht, hc]

theorem step_of_nextTurn_ppu (hf : s.faultRecord = none) (hnext : s.nextTurn = (.ppu, us)) :
    step s = ppuStep (s.setTurns us) := by
  simp only [step, hnext, act, setTurns_faultRecord, hf]

theorem step_of_nextTurn_host {action : HostAction} (hf : s.faultRecord = none)
    (hnext : s.nextTurn = (.host action, us)) : step s = hostAct action (s.setTurns us) := by
  simp only [step, hnext, act, setTurns_faultRecord, hf]

/-- Settles O7: either shape of the schedule names the turn. -/
theorem stepTakesTheOtherTurns : Obligations.StepTakesTheOtherTurns :=
  fun _ _ hf => ⟨fun h => step_of_nextTurn_ppu hf (nextTurn_of_listed h),
    fun _ h => step_of_nextTurn_host hf (nextTurn_of_listed h)⟩

/-- Settles O53: the host's `reset()` turn makes the three stores of `resetPpu`. -/
theorem ppuResetStoresThreeRegisters : Obligations.PpuResetStoresThreeRegisters :=
  fun _ _ hf ht => step_of_nextTurn_host hf (nextTurn_of_listed (.inl ht))

/-! ## The host's stores (R352) -/

theorem store_sameDriver (k : Key) (v : k.Val) : SameDriver s (s.store k v) := by
  cases k with
  | cpuRegister r | ppuRegister r => cases r <;> exact ⟨rfl, rfl, rfl⟩
  | cpuRam16 | cpuInterruptLatch | ppuMemory8 | screenPixel => exact ⟨rfl, rfl, rfl⟩

/-- A host action other than `reset()` that completes is a store to its target, which then holds the value the action
carries. -/
theorem hostAct_stores {action : HostAction} (hact : action ≠ .resetPpu) (h : hostAct action s = .next t) :
    action.Stored t ∧ ∃ (k : Key) (v : k.Val), action.target = some k ∧ t = s.store k v := by
  cases action with
  | resetPpu => exact absurd rfl hact
  | storePpuCycles n =>
    simp only [hostAct] at h
    split at h
    · exact ⟨Host.Outcome.next.inj h ▸ rfl, _, _, rfl, (Host.Outcome.next.inj h).symm⟩
    · exact nomatch h
  | storeScanline n =>
    simp only [hostAct] at h
    split at h
    · exact ⟨Host.Outcome.next.inj h ▸ rfl, .ppuRegister .scanline, n, rfl, (Host.Outcome.next.inj h).symm⟩
    · exact nomatch h
  | _ => exact ⟨Host.Outcome.next.inj h ▸ load_store_same s _ _, _, _, rfl, (Host.Outcome.next.inj h).symm⟩

/-- Only a counter outside its range is refused (R37, R38, D24). -/
theorem hostAct_completes {action : HostAction} (hdot : ∀ n, action = .storePpuCycles n → n ≤ 340)
    (hline : ∀ n, action = .storeScanline n → n ≤ 261) : ∃ t, hostAct action s = .next t := by
  cases action with
  | storePpuCycles n => exact ⟨_, dif_pos (Nat.lt_succ_of_le (hdot n rfl))⟩
  | storeScanline n => exact ⟨_, if_pos (hline n rfl)⟩
  | _ => exact ⟨_, rfl⟩

/-- Settles O55: the one store is that of `hostAct_stores`, and it changes no other key. -/
theorem hostTurnStoresOneKey : Obligations.HostTurnStoresOneKey := by
  refine ⟨fun action s t hact h => ?_, fun _ _ => hostAct_completes⟩
  obtain ⟨hstored, k, v, htarget, rfl⟩ := hostAct_stores hact h
  refine ⟨hstored, ⟨k, v, htarget, rfl⟩, fun k' hk' => load_store_other s v ?_, store_sameDriver k v⟩
  rintro rfl
  exact hk' htarget

/-! ## After a fatal fault (R315, D20) -/

theorem step_of_faultRecord {f : Fault} (h : s.faultRecord = some f) : step s = .fault f := by
  simp only [step, act, setTurns_faultRecord, h]

theorem sessionStep_faultRecord {f : Fault} (h : step s = .fault f) : (sessionStep s).faultRecord = some f := by
  rw [sessionStep, h]
  rfl

/-- Settles O52: a recorded fault is answered by the next step, and so recorded again. -/
theorem faultIsTerminal : Obligations.FaultIsTerminal := by
  refine ⟨fun s f => sessionStep_faultRecord, fun s f n h => ?_⟩
  have hkept : (sessionStep^[n] s).faultRecord = some f :=
    Function.Iterate.rec (fun u : State => u.faultRecord = some f) h
      (fun _ hu => sessionStep_faultRecord (step_of_faultRecord hu)) n
  exact ⟨hkept, step_of_faultRecord hkept⟩

end Sys2Proof.Machine
end

section
/-! Any order of the same engine turns (R347): a listed run as its first turn and the run of the rest, and two
neighbouring turns exchanged. -/

namespace Sys2Proof.Machine

variable {s t u : State} {us vs : List Turn}

/-- A turn neither reads nor writes the turns listed (R47). -/
theorem act_setTurns (turn : Turn) (s : State) (us : List Turn) :
    act turn (s.setTurns us) = mapNext (·.setTurns us) (act turn s) := by
  rw [act_eq_takeTurn, act_eq_takeTurn s, mapNext_mapNext]
  rfl

/-- A listed run completes when its first turn does and the run of the rest then does. -/
theorem runEngine_step_cons (turn : Turn) :
    runEngine step (turn :: us).length (s.setTurns (turn :: us)) = .next t ↔
      ∃ d, act turn s = .next d ∧ runEngine step us.length (d.setTurns us) = .next t := by
  have hstep : step (s.setTurns (turn :: us)) = mapNext (·.setTurns us) (act turn s) := act_setTurns turn s us
  cases hact : act turn s with
  | next d =>
    have hd : step (s.setTurns (turn :: us)) = .next (d.setTurns us) := by rw [hstep, hact]; rfl
    rw [List.length_cons, runEngine_succ_of_next hd]
    simp
  | fault f => simp [runEngine, hstep, hact]
  | refused r => simp [runEngine, hstep, hact]

theorem act_cpu (hf : s.faultRecord = none) : act .cpu s = cpuStep s := by
  simp only [act, hf]

theorem act_ppu (hf : s.faultRecord = none) : act .ppu s = ppuStep s := by
  simp only [act, hf]

/-- An engine's turn leaves no fault on record. -/
theorem faultRecord_of_engine_turn {turn : Turn} (hturn : turn = .cpu ∨ turn = .ppu) (h : act turn s = .next t) :
    s.faultRecord = none ∧ t.faultRecord = none := by
  have hf := (act_next h).1
  rcases hturn with rfl | rfl
  · rw [act_cpu hf] at h
    exact ⟨hf, (exec_sameOutsideCpu h).driver.faultRecord.trans hf⟩
  · rw [act_ppu hf] at h
    exact ⟨hf, (ppuStep_sameDriver h).faultRecord.trans hf⟩

/-- Two engine turns that complete one after the other complete to the same state in the other order (R79). -/
theorem act_comm {a b : Turn} (ha : a = .cpu ∨ a = .ppu) (hb : b = .cpu ∨ b = .ppu) (hs : act a s = .next t)
    (ht : act b t = .next u) : ∃ t', act b s = .next t' ∧ act a t' = .next u := by
  obtain ⟨hfs, hft⟩ := faultRecord_of_engine_turn ha hs
  obtain ⟨hcpu, hppu, -, -⟩ := cpuAndPpuStepsCommute s t
  rcases ha with rfl | rfl <;> rcases hb with rfl | rfl
  · exact ⟨t, hs, ht⟩
  · rw [act_cpu hfs] at hs
    rw [act_ppu hft] at ht
    obtain ⟨t', hs', ht'⟩ := hcpu hs u ht
    have hft' := (ppuStep_sameDriver hs').faultRecord.trans hfs
    exact ⟨t', (act_ppu hfs).trans hs', (act_cpu hft').trans ht'⟩
  · rw [act_ppu hfs] at hs
    rw [act_cpu hft] at ht
    obtain ⟨t', hs', ht'⟩ := hppu hs u ht
    have hft' := (exec_sameOutsideCpu hs').driver.faultRecord.trans hfs
    exact ⟨t', (act_cpu hfs).trans hs', (act_ppu hft').trans ht'⟩
  · exact ⟨t, hs, ht⟩

/-- Settles O51: a permutation exchanges neighbours, and neighbours commute by `act_comm`. -/
theorem scheduleOrderDoesNotMatter : Obligations.ScheduleOrderDoesNotMatter := by
  intro s t us vs hengine hperm
  induction hperm generalizing s with
  | nil => exact id
  | cons a _ ih =>
    simp only [runEngine_step_cons]
    rintro ⟨d, hd, hrun⟩
    exact ⟨d, hd, ih d (fun b hb => hengine b (List.mem_cons_of_mem a hb)) hrun⟩
  | swap a b us =>
    simp only [runEngine_step_cons]
    rintro ⟨d, hd, e, he, hrun⟩
    obtain ⟨d', hd', he'⟩ := act_comm (hengine b (by simp)) (hengine a (by simp)) hd he
    exact ⟨d', hd', e, he', hrun⟩
  | trans hfirst _ ih₁ ih₂ =>
    exact fun hrun => ih₂ s (fun b hb => hengine b (hfirst.mem_iff.mpr hb)) (ih₁ s hengine hrun)

end Sys2Proof.Machine
end

section
/-! A run of `step` as a run under a schedule (R347, R47): the turns that a state lists, as a schedule, and the run
under that schedule. -/

namespace Sys2Proof.Machine

/-! ## Runs by their last step -/

/-- Go on from an outcome's next state; a fault or a refusal ends the run. -/
def bindNext {σ τ : Type} (o : Host.Outcome σ Fault Refusal) (f : σ → Host.Outcome τ Fault Refusal) :
    Host.Outcome τ Fault Refusal :=
  match o with
  | .next s => f s
  | .fault e => .fault e
  | .refused r => .refused r

theorem runSchedule_succ (schedule : Nat → Turn) (k : Nat) (c : CoreState) :
    runSchedule schedule (k + 1) c = bindNext (runSchedule schedule k c) (takeTurn (schedule k)) := by
  rw [runSchedule]
  cases runSchedule schedule k c <;> rfl

theorem runEngine_succ (engine : State → Result) (k : Nat) (s : State) :
    runEngine engine (k + 1) s = bindNext (runEngine engine k s) engine := by
  induction k generalizing s with
  | zero => exact runEngine_one
  | succ k ih =>
    cases h : engine s with
    | next t => rw [runEngine_succ_of_next h, runEngine_succ_of_next h, ih t]
    | fault f => simp only [runEngine, h, bindNext]
    | refused r => simp only [runEngine, h, bindNext]

/-- A run of `k` turns looks at the first `k` turns of its schedule. -/
theorem runSchedule_congr {f g : Nat → Turn} {k : Nat} (h : ∀ n < k, f n = g n) (c : CoreState) :
    runSchedule f k c = runSchedule g k c := by
  induction k with
  | zero => rfl
  | succ k ih =>
    rw [runSchedule_succ, runSchedule_succ, ih fun n hn => h n (Nat.lt_succ_of_lt hn), h k (Nat.lt_succ_self k)]

/-! ## The schedule that a state lists -/

/-- The state with its next turn taken off, the machine's state as it was. -/
def State.dropTurn (s : State) : State := s.setTurns s.nextTurn.2

/-- The turn that a state's schedule names after `n` others. -/
def State.turnAt (s : State) (n : Nat) : Turn := (State.dropTurn^[n] s).nextTurn.1

variable (s : State)

theorem dropTurn_iterate (n : Nat) : State.dropTurn^[n] s = s.setTurns (State.dropTurn^[n] s).turns := by
  induction n with
  | zero => rfl
  | succ n ih =>
    rw [Function.iterate_succ_apply', ih]
    rfl

/-- The machine's states of a run of `step` are those of the run under the schedule listed, and beside them stands what
is left of that schedule (R7, R47). -/
theorem runEngine_step_eq (k : Nat) :
    runEngine step k s = mapNext (fun c => c.withSchedule (State.dropTurn^[k] s).turns s.cycle)
      (runSchedule s.turnAt k s.toCoreState) := by
  induction k with
  | zero => rfl
  | succ k ih =>
    rw [runEngine_succ, ih, runSchedule_succ]
    cases runSchedule s.turnAt k s.toCoreState with
    | next d =>
      have hleft :
          (d.withSchedule (State.dropTurn^[k] s).turns s.cycle).nextTurn = (State.dropTurn^[k] s).nextTurn := by
        rw [dropTurn_iterate]
        rfl
      refine (stepIsATurnOfTheMachine (d.withSchedule (State.dropTurn^[k] s).turns s.cycle)).trans ?_
      rw [hleft, Function.iterate_succ_apply']
      rfl
    | fault f => rfl
    | refused r => rfl

theorem toCoreState_runEngine_step (k : Nat) :
    mapNext State.toCoreState (runEngine step k s) = runSchedule s.turnAt k s.toCoreState := by
  rw [runEngine_step_eq, mapNext_mapNext]
  cases runSchedule s.turnAt k s.toCoreState <;> rfl

/-! ## Listed turns and repeated turns -/

theorem turnAt_succ (n : Nat) : s.turnAt (n + 1) = s.dropTurn.turnAt n := rfl

theorem turnAt_setTurns (us : List Turn) {n : Nat} (h : n < us.length) : (s.setTurns us).turnAt n = us[n] := by
  induction n generalizing us with
  | zero =>
    obtain ⟨u, us, rfl⟩ := List.exists_cons_of_length_pos h
    rfl
  | succ n ih =>
    obtain ⟨u, us, rfl⟩ := List.exists_cons_of_length_pos (Nat.zero_lt_of_lt h)
    exact ih us (Nat.lt_of_succ_lt_succ h)

theorem dropTurn_iterate_setTurns (us : List Turn) : State.dropTurn^[us.length] (s.setTurns us) = s.setTurns [] := by
  induction us with
  | nil => rfl
  | cons u us ih => exact ih

variable {s}

/-- With no turn listed, the turns to repeat are as good as listed (log 7). -/
theorem nextTurn_setTurns_cycle (h : s.turns = []) : (s.setTurns s.cycle).nextTurn = s.nextTurn := by
  cases hc : s.cycle <;> simp [State.nextTurn, h, hc]

theorem dropTurn_setTurns_cycle (h : s.turns = []) : (s.setTurns s.cycle).dropTurn = s.dropTurn :=
  congrArg (fun next : Turn × List Turn => s.setTurns next.2) (nextTurn_setTurns_cycle h)

theorem turnAt_setTurns_cycle (h : s.turns = []) (n : Nat) : (s.setTurns s.cycle).turnAt n = s.turnAt n := by
  cases n with
  | zero => exact congrArg Prod.fst (nextTurn_setTurns_cycle h)
  | succ n => rw [turnAt_succ, turnAt_succ, dropTurn_setTurns_cycle h]

/-- Taking the repeated turns off once leaves the state as it was, so they repeat (R347). -/
theorem turnAt_periodic {j : Nat} (h : s.turns = []) (hlen : s.cycle.length = j + 1) :
    Function.Periodic s.turnAt (j + 1) := by
  have hround : State.dropTurn^[j + 1] s = s := by
    calc State.dropTurn^[j + 1] s
      _ = State.dropTurn^[j] (s.setTurns s.cycle).dropTurn := by
        rw [dropTurn_setTurns_cycle h, Function.iterate_succ_apply]
      _ = State.dropTurn^[s.cycle.length] (s.setTurns s.cycle) := by rw [hlen, Function.iterate_succ_apply]
      _ = s.setTurns [] := dropTurn_iterate_setTurns s s.cycle
      _ = s := by rw [← h]; rfl
  intro n
  rw [State.turnAt, Function.iterate_add_apply, hround]
  rfl

/-- Two schedules with one period are the same if they agree on the first period. -/
theorem eq_of_periodic {f g : Nat → Turn} {j : Nat} (hf : Function.Periodic f (j + 1))
    (hg : Function.Periodic g (j + 1)) (h : ∀ n < j + 1, f n = g n) : f = g := by
  funext n
  rw [← hf.map_mod_nat n, ← hg.map_mod_nat n]
  exact h _ (Nat.mod_lt n (Nat.succ_pos j))

/-- The first turns of a schedule, listed, are named in their order. -/
theorem turnAt_listed (s : State) (schedule : Nat → Turn) {k n : Nat} (h : n < k) :
    (s.setTurns ((List.range k).map schedule)).turnAt n = schedule n := by
  rw [turnAt_setTurns s _ (by simpa using h)]
  simp

/-- Settles O60: the schedule listed is the schedule given, on the first `k` turns or, repeated, on all. -/
theorem scheduleIsAParameterOfARun : Obligations.ScheduleIsAParameterOfARun := by
  refine fun schedule s => ⟨fun k => ?_, fun j hturns hcycle hperiod k => ?_⟩
  · rw [toCoreState_runEngine_step]
    exact runSchedule_congr (fun n hn => turnAt_listed s schedule hn) _
  · have hsame : s.turnAt = schedule := by
      refine eq_of_periodic (turnAt_periodic hturns (by simp [hcycle])) hperiod fun n hn => ?_
      rw [← turnAt_setTurns_cycle hturns, hcycle]
      exact turnAt_listed s schedule hn
    rw [toCoreState_runEngine_step, hsame]

end Sys2Proof.Machine
end
